-- ==== Sys2Proof/Word.lean ====
section
/-! DEFINITION. The words of the part: bytes on the link, 16-bit tags and sequence numbers, 32-bit positions and counts. -/

namespace Sys2Proof

/-- One byte on the link (R176, R203). -/
abbrev Byte := BitVec 8

/-- A 16-bit tag or sequence number (R1, R134). -/
abbrev Half := BitVec 16

/-- A 32-bit position, pulse count or payload value (R2, R58, R137). -/
abbrev Word := BitVec 32

end Sys2Proof
end

