-- ==== Sys2Proof/Config.lean ====
section
/-! DEFINITION. The constants the spec fixes. The spec leaves no value of an executed command open, so there is no opaque constant here. -/

namespace Sys2Proof.Config

/-- Each move queue holds at most 32 records (R7). -/
def queueCapacity : Nat := 32

/-- Each mark table holds at most 8 marks (R112). -/
def markCapacity : Nat := 8

/-- Held records plus reservations never number more than 128 (R134). -/
def journalCapacity : Nat := 128

/-- Ordinary records and reservations are admitted up to this total, the claim counted (R142). -/
def admissionLimit : Nat := 126

/-- The lost count and the discard counts saturate here (R143, R150). -/
def countLimit : Nat := 65535

/-- The greatest rate in pulses per second (R20). -/
def rateLimit : Nat := 200000

/-- The greatest settle count (R20). -/
def settleLimit : Nat := 255

/-- The greatest distance in steps (R2). -/
def distanceLimit : Nat := 16777215

/-- The greatest dwell time in ms (R2). -/
def dwellLimit : Nat := 65535

/-- The reference clock in Hz (R53). -/
def clockHz : Nat := 16000000

/-- The frame receiver keeps the first 67 bytes of a transaction (R176). -/
def frameBytes : Nat := 67

/-- A payload is at most 64 bytes (R176, R178). -/
def payloadLimit : Nat := 64

/-- READ JOURNAL returns at most three records (R153). -/
def readLimit : Nat := 3

end Sys2Proof.Config
end

