-- ==== Sys2Proof/Syntax.lean ====
section
/-! DEFINITION. The commands of the part: one constructor for each row of spec/opcode_table.json.

A request's operands are its payload fields at the widths the frame carries them (12.5), so every code a host can send has a
term, defined or not, and last the filler bytes that its transaction clocks after the frame (R176), none where a term gives none. A happening's operands name the
axis, and for a limit line its side. -/

namespace Sys2Proof

/-- The two axes (Conventions of spec/00_scope.md). -/
inductive Axis where
  | A
  | B
  deriving DecidableEq, Repr

/-- The axis that is not this one. -/
def Axis.other : Axis → Axis
  | .A => .B
  | .B => .A

/-- The two directions of travel, also the two sides a limit line guards. -/
inductive Direction where
  | plus
  | minus
  deriving DecidableEq, Repr

/-- The 13 bytes of a move record as its fields are carried (12.3): two nibbles, a nibble and two pairs of bits, then bytes. -/
structure RawMove where
  kind : BitVec 4
  profile : BitVec 4
  start : BitVec 4
  direction : BitVec 2
  capture : BitVec 2
  pair : Byte
  tag : Half
  value : Word
  aux : Word
  deriving DecidableEq, Repr

/-- The 9 bytes of a settings record as carried (12.6). -/
structure RawSettings where
  emergencyStyle : Byte
  armLimit : Half
  polarityA : Byte
  polarityB : Byte
  threshold : Byte
  enableMask : Byte
  groupOrder : Byte
  axisOrder : Byte
  deriving DecidableEq, Repr

/-- The six profile fields as WRITE PROFILE carries them (12.5). -/
structure RawProfile where
  base : Word
  cruise : Word
  ramp : Half
  settle : Half
  limitStyle : Byte
  homeStyle : Byte
  deriving DecidableEq, Repr

/-- The commands of spec/opcode_table.json. A request stands for the rise of chip-select that ends the transaction carrying it. -/
inductive Instr where
  /-- NOP (R191). -/
  | nop (filler : List Byte := [])
  /-- GET_STATUS (R189). -/
  | getStatus (filler : List Byte := [])
  /-- GET_SETTINGS (R188). -/
  | getSettings (filler : List Byte := [])
  /-- SET_SETTINGS (R186). -/
  | setSettings (settings : RawSettings) (filler : List Byte := [])
  /-- QUEUE_MOVES (R9). -/
  | queueMoves (selector : Byte) (moves : List RawMove) (filler : List Byte := [])
  /-- FLUSH_QUEUE (R16). -/
  | flushQueue (selector : Byte) (filler : List Byte := [])
  /-- STOP_AXIS (R88). -/
  | stopAxis (selector style after : Byte) (filler : List Byte := [])
  /-- RESUME_AXIS (R110). -/
  | resumeAxis (selector : Byte) (filler : List Byte := [])
  /-- RETUNE (R35). -/
  | retune (selector : Byte) (rate : Word) (filler : List Byte := [])
  /-- SET_POSITION (R59). -/
  | setPosition (selector : Byte) (value : Word) (filler : List Byte := [])
  /-- WRITE_PROFILE (R22). -/
  | writeProfile (index : Byte) (profile : RawProfile) (filler : List Byte := [])
  /-- READ_PROFILE (R23). -/
  | readProfile (index : Byte) (filler : List Byte := [])
  /-- STATION_STORE (R125). -/
  | stationStore (station presenceA : Byte) (valueA : Word) (presenceB : Byte) (valueB : Word) (filler : List Byte := [])
  /-- STATION_TEACH (R126). -/
  | stationTeach (station axisSet : Byte) (filler : List Byte := [])
  /-- STATION_READ (R129). -/
  | stationRead (station : Byte) (filler : List Byte := [])
  /-- STATION_CLEAR (R128). -/
  | stationClear (station axisSet : Byte) (filler : List Byte := [])
  /-- MARK_ADD (R114). -/
  | markAdd (selector id : Byte) (position : Word) (sense : Byte) (filler : List Byte := [])
  /-- MARK_REMOVE (R115). -/
  | markRemove (selector id : Byte) (filler : List Byte := [])
  /-- MARK_LIST (R116). -/
  | markList (selector : Byte) (filler : List Byte := [])
  /-- READ_JOURNAL (R153). -/
  | readJournal (start : Half) (count : Byte) (filler : List Byte := [])
  /-- ACK_JOURNAL (R155). -/
  | ackJournal (number : Half) (filler : List Byte := [])
  /-- READ_EVENTS (R199). -/
  | readEvents (filler : List Byte := [])
  /-- CLEAR_EVENTS (R200). -/
  | clearEvents (flags : Byte) (filler : List Byte := [])
  /-- CLEAR_COLD_FLAG (R172). -/
  | clearColdFlag (filler : List Byte := [])
  /-- SOFT_RESET (R165). -/
  | softReset (filler : List Byte := [])
  /-- FRAME_REJECTED (R180): chip-select rises after these whole bytes, and they make no request. -/
  | frameRejected (bytes : List Byte)
  /-- SYNC_FALLING_EDGE (R72), as the named engine takes it (R205). -/
  | syncFallingEdge (engine : Axis)
  /-- SYNC_HIGH (R73), as the named engine takes it (R205). -/
  | syncHigh (engine : Axis)
  /-- LIMIT_ASSERT (R99): the limit line of one axis and side. -/
  | limitAssert (axis : Axis) (side : Direction)
  /-- LIMIT_RELEASE (R99). -/
  | limitRelease (axis : Axis) (side : Direction)
  /-- HOME_ASSERT (R61). -/
  | homeAssert (axis : Axis)
  /-- HOME_RELEASE (R61). -/
  | homeRelease (axis : Axis)
  /-- EMERGENCY_ASSERT (R103), as the named engine takes it (R205). -/
  | emergencyAssert (engine : Axis)
  /-- EMERGENCY_RELEASE (R105), as the named engine takes it (R205). -/
  | emergencyRelease (engine : Axis)
  /-- PIN_RESET (R162). -/
  | pinReset
  /-- PIN_RESET_RELEASE (R164); disturbed says that the held period left retained contents that no longer match their code (R167). -/
  | pinResetRelease (disturbed : Bool)
  /-- POWER_ON (R161). -/
  | powerOn
  /-- PULSE (R55): the pulse interval of the axis has run. -/
  | pulse (axis : Axis)
  /-- DWELL_TIMEOUT (R64). -/
  | dwellTimeout (axis : Axis)
  /-- ARM_TIMEOUT (R81). -/
  | armTimeout (axis : Axis)
  /-- ADMISSION_ATTEMPT (R43). -/
  | admissionAttempt (axis : Axis)
  /-- SUPPLY_OUT_OF_RANGE (R161). -/
  | supplyOutOfRange
  /-- CHIP_SELECT_FALL (R175). -/
  | chipSelectFall
  deriving DecidableEq, Repr

end Sys2Proof
end

