-- ==== Sys2Proof/Decode.lean ====
section
/-! DEFINITION. The bytes of the link: field layout (R203), CRC-8 (R177), the frame checks (R180), the request catalogue (R192,
12.2), the reading of a transaction's bytes as a command and the writing of a request as its frame. The rows of
spec/opcode_table.json give no bits, so decodeTableWord reads none. -/

namespace Sys2Proof

/-! ### Fields of more than one byte, most significant byte first (R203) -/

/-- The two bytes of a 16-bit field. -/
def bytes2 (h : Half) : List Byte :=
  [h.extractLsb' 8 8, h.extractLsb' 0 8]

/-- The three bytes of a 24-bit reply field. -/
def bytes3 (n : Nat) : List Byte :=
  [(BitVec.ofNat 24 n).extractLsb' 16 8, (BitVec.ofNat 24 n).extractLsb' 8 8, (BitVec.ofNat 24 n).extractLsb' 0 8]

/-- The four bytes of a 32-bit field. -/
def bytes4 (w : Word) : List Byte :=
  [w.extractLsb' 24 8, w.extractLsb' 16 8, w.extractLsb' 8 8, w.extractLsb' 0 8]

/-- A 16-bit field from its two bytes. -/
def halfOf (hi lo : Byte) : Half := hi ++ lo

/-- A 32-bit field from its four bytes. -/
def wordOf (b3 b2 b1 b0 : Byte) : Word := b3 ++ b2 ++ b1 ++ b0

/-! ### CRC-8 (R177) -/

/-- One shift of the CRC register: the value 7 is combined when the bit shifted out was 1. -/
def crcShift (r : Byte) : Byte :=
  if r.msb then (r <<< 1) ^^^ 7#8 else r <<< 1

/-- The register after one more byte: exclusive or, then eight shifts. -/
def crcByte (r b : Byte) : Byte :=
  Nat.repeat crcShift 8 (r ^^^ b)

/-- The CRC of a run of bytes, from 0 (R177). -/
def crc8 (bytes : List Byte) : Byte :=
  bytes.foldl crcByte 0#8

/-! ### The request catalogue (R192, 12.2) -/

/-- The 25 request kinds of R192. -/
inductive RequestKind where
  | nop | getStatus | getSettings | setSettings
  | queueMoves | flushQueue | stopAxis | resumeAxis | retune | setPosition
  | writeProfile | readProfile
  | stationStore | stationTeach | stationRead | stationClear
  | markAdd | markRemove | markList
  | readJournal | ackJournal
  | readEvents | clearEvents | clearColdFlag | softReset
  deriving DecidableEq, Repr

/-- The kind byte of a request (12.2). -/
def RequestKind.code : RequestKind → Byte
  | .nop => 0x01#8
  | .getStatus => 0x02#8
  | .getSettings => 0x03#8
  | .setSettings => 0x04#8
  | .queueMoves => 0x10#8
  | .flushQueue => 0x11#8
  | .stopAxis => 0x12#8
  | .resumeAxis => 0x13#8
  | .retune => 0x14#8
  | .setPosition => 0x15#8
  | .writeProfile => 0x20#8
  | .readProfile => 0x21#8
  | .stationStore => 0x28#8
  | .stationTeach => 0x29#8
  | .stationRead => 0x2A#8
  | .stationClear => 0x2B#8
  | .markAdd => 0x30#8
  | .markRemove => 0x31#8
  | .markList => 0x32#8
  | .readJournal => 0x38#8
  | .ackJournal => 0x39#8
  | .readEvents => 0x40#8
  | .clearEvents => 0x41#8
  | .clearColdFlag => 0x48#8
  | .softReset => 0x5A#8

/-- Every request kind, in the order of R192. -/
def RequestKind.all : List RequestKind :=
  [.nop, .getStatus, .getSettings, .setSettings, .queueMoves, .flushQueue, .stopAxis, .resumeAxis, .retune, .setPosition,
   .writeProfile, .readProfile, .stationStore, .stationTeach, .stationRead, .stationClear, .markAdd, .markRemove, .markList,
   .readJournal, .ackJournal, .readEvents, .clearEvents, .clearColdFlag, .softReset]

/-- The request a kind byte names, none when it names no request (R180 check 3). -/
def RequestKind.ofCode (b : Byte) : Option RequestKind :=
  RequestKind.all.find? (fun k => k.code == b)

/-- The payload lengths R192 accepts for a kind. -/
def RequestKind.lengths : RequestKind → List Nat
  | .nop | .getStatus | .getSettings | .readEvents | .clearColdFlag | .softReset => [0]
  | .setSettings => [9]
  | .queueMoves => [14, 27, 40, 53]
  | .flushQueue | .resumeAxis | .readProfile | .stationRead | .markList | .clearEvents => [1]
  | .stopAxis | .readJournal => [3]
  | .retune | .setPosition => [5]
  | .writeProfile => [15]
  | .stationStore => [11]
  | .stationTeach | .stationClear | .markRemove | .ackJournal => [2]
  | .markAdd => [7]

/-! ### Frames (R176) -/

/-- A request frame: kind, length, payload and the CRC over the three (R176). -/
def requestFrame (kind : Byte) (payload : List Byte) : List Byte :=
  let covered := kind :: BitVec.ofNat 8 payload.length :: payload
  covered ++ [crc8 covered]

/-- The link's four error statuses (R180). -/
inductive LinkError where
  | frameError
  | crcError
  | unknownKind
  | lengthError
  deriving DecidableEq, Repr

/-- The checks of R180, in order, over the bytes the frame receiver keeps: the first that fails, or none. -/
def linkCheck : List Byte → Option LinkError
  | kind :: len :: rest =>
    let l := len.toNat
    if Config.payloadLimit < l ∨ rest.length < l + 1 then some .frameError
    else if rest[l]? ≠ some (crc8 (kind :: len :: rest.take l)) then some .crcError
    else match RequestKind.ofCode kind with
      | none => some .unknownKind
      | some k => if l ∈ k.lengths then none else some .lengthError
  | _ => some .frameError

/-! ### Payloads (12.3, 12.5, 12.6) -/

/-- A move record from its 13 bytes (12.3). -/
def moveOfBytes (b0 b1 b2 b3 b4 b5 b6 b7 b8 b9 b10 b11 b12 : Byte) : RawMove where
  kind := b0.extractLsb' 4 4
  profile := b0.extractLsb' 0 4
  start := b1.extractLsb' 4 4
  direction := b1.extractLsb' 2 2
  capture := b1.extractLsb' 0 2
  pair := b2
  tag := halfOf b3 b4
  value := wordOf b5 b6 b7 b8
  aux := wordOf b9 b10 b11 b12

/-- The 13 bytes of a move record (12.3). -/
def moveBytes (m : RawMove) : List Byte :=
  [m.kind ++ m.profile, m.start ++ m.direction ++ m.capture, m.pair] ++ bytes2 m.tag ++ bytes4 m.value ++ bytes4 m.aux

/-- The move records that follow the selector in a QUEUE MOVES payload, none where the bytes are no whole number of records. -/
def movesOfBytes : List Byte → Option (List RawMove)
  | [] => some []
  | b0 :: b1 :: b2 :: b3 :: b4 :: b5 :: b6 :: b7 :: b8 :: b9 :: b10 :: b11 :: b12 :: rest =>
    (movesOfBytes rest).map (moveOfBytes b0 b1 b2 b3 b4 b5 b6 b7 b8 b9 b10 b11 b12 :: ·)
  | _ => none

/-- The nine bytes of a settings record (12.6). -/
def settingsBytes (r : RawSettings) : List Byte :=
  [r.emergencyStyle] ++ bytes2 r.armLimit ++
    [r.polarityA, r.polarityB, r.threshold, r.enableMask, r.groupOrder, r.axisOrder]

/-- The fourteen bytes of a profile after its index, in the WRITE PROFILE layout (12.5). -/
def profileBytes (r : RawProfile) : List Byte :=
  bytes4 r.base ++ bytes4 r.cruise ++ bytes2 r.ramp ++ bytes2 r.settle ++ [r.limitStyle, r.homeStyle]

/-- The command a request frame's payload makes for its kind with the filler that follows the frame, none where the payload has another
length (12.5). -/
def requestOfPayload (filler : List Byte) : RequestKind → List Byte → Option Instr
  | .nop, [] => some (.nop filler)
  | .getStatus, [] => some (.getStatus filler)
  | .getSettings, [] => some (.getSettings filler)
  | .setSettings, [b0, b1, b2, b3, b4, b5, b6, b7, b8] => some (.setSettings ⟨b0, halfOf b1 b2, b3, b4, b5, b6, b7, b8⟩ filler)
  | .queueMoves, sel :: rest => (movesOfBytes rest).map (fun moves => .queueMoves sel moves filler)
  | .flushQueue, [sel] => some (.flushQueue sel filler)
  | .stopAxis, [sel, style, after] => some (.stopAxis sel style after filler)
  | .resumeAxis, [sel] => some (.resumeAxis sel filler)
  | .retune, [sel, r3, r2, r1, r0] => some (.retune sel (wordOf r3 r2 r1 r0) filler)
  | .setPosition, [sel, v3, v2, v1, v0] => some (.setPosition sel (wordOf v3 v2 v1 v0) filler)
  | .writeProfile, [i, b3, b2, b1, b0, c3, c2, c1, c0, r1, r0, s1, s0, ls, hs] =>
    some (.writeProfile i ⟨wordOf b3 b2 b1 b0, wordOf c3 c2 c1 c0, halfOf r1 r0, halfOf s1 s0, ls, hs⟩ filler)
  | .readProfile, [i] => some (.readProfile i filler)
  | .stationStore, [n, pa, a3, a2, a1, a0, pb, b3, b2, b1, b0] =>
    some (.stationStore n pa (wordOf a3 a2 a1 a0) pb (wordOf b3 b2 b1 b0) filler)
  | .stationTeach, [n, set] => some (.stationTeach n set filler)
  | .stationRead, [n] => some (.stationRead n filler)
  | .stationClear, [n, set] => some (.stationClear n set filler)
  | .markAdd, [sel, id, p3, p2, p1, p0, sense] => some (.markAdd sel id (wordOf p3 p2 p1 p0) sense filler)
  | .markRemove, [sel, id] => some (.markRemove sel id filler)
  | .markList, [sel] => some (.markList sel filler)
  | .readJournal, [s1, s0, k] => some (.readJournal (halfOf s1 s0) k filler)
  | .ackJournal, [a1, a0] => some (.ackJournal (halfOf a1 a0) filler)
  | .readEvents, [] => some (.readEvents filler)
  | .clearEvents, [f] => some (.clearEvents f filler)
  | .clearColdFlag, [] => some (.clearColdFlag filler)
  | .softReset, [] => some (.softReset filler)
  | _, _ => none

/-- The kind and the payload bytes of a request; none for a command that no frame carries. -/
def payloadOfRequest : Instr → Option (RequestKind × List Byte)
  | .nop _ => some (.nop, [])
  | .getStatus _ => some (.getStatus, [])
  | .getSettings _ => some (.getSettings, [])
  | .setSettings r _ => some (.setSettings, settingsBytes r)
  | .queueMoves sel moves _ => some (.queueMoves, sel :: moves.flatMap moveBytes)
  | .flushQueue sel _ => some (.flushQueue, [sel])
  | .stopAxis sel style after _ => some (.stopAxis, [sel, style, after])
  | .resumeAxis sel _ => some (.resumeAxis, [sel])
  | .retune sel rate _ => some (.retune, sel :: bytes4 rate)
  | .setPosition sel value _ => some (.setPosition, sel :: bytes4 value)
  | .writeProfile i r _ => some (.writeProfile, i :: profileBytes r)
  | .readProfile i _ => some (.readProfile, [i])
  | .stationStore n pa va pb vb _ => some (.stationStore, [n, pa] ++ bytes4 va ++ [pb] ++ bytes4 vb)
  | .stationTeach n set _ => some (.stationTeach, [n, set])
  | .stationRead n _ => some (.stationRead, [n])
  | .stationClear n set _ => some (.stationClear, [n, set])
  | .markAdd sel id p sense _ => some (.markAdd, [sel, id] ++ bytes4 p ++ [sense])
  | .markRemove sel id _ => some (.markRemove, [sel, id])
  | .markList sel _ => some (.markList, [sel])
  | .readJournal s k _ => some (.readJournal, bytes2 s ++ [k])
  | .ackJournal a _ => some (.ackJournal, bytes2 a)
  | .readEvents _ => some (.readEvents, [])
  | .clearEvents f _ => some (.clearEvents, [f])
  | .clearColdFlag _ => some (.clearColdFlag, [])
  | .softReset _ => some (.softReset, [])
  | .frameRejected _ => none
  | .syncFallingEdge _ => none
  | .syncHigh _ => none
  | .limitAssert _ _ => none
  | .limitRelease _ _ => none
  | .homeAssert _ => none
  | .homeRelease _ => none
  | .emergencyAssert _ => none
  | .emergencyRelease _ => none
  | .pinReset => none
  | .pinResetRelease _ => none
  | .powerOn => none
  | .pulse _ => none
  | .dwellTimeout _ => none
  | .armTimeout _ => none
  | .admissionAttempt _ => none
  | .supplyOutOfRange => none
  | .chipSelectFall => none

/-- The filler bytes that a request's transaction clocks after its frame (R176); no byte for a command that no frame carries. -/
def fillerOfRequest : Instr → List Byte
  | .nop filler => filler
  | .getStatus filler => filler
  | .getSettings filler => filler
  | .setSettings _ filler => filler
  | .queueMoves _ _ filler => filler
  | .flushQueue _ filler => filler
  | .stopAxis _ _ _ filler => filler
  | .resumeAxis _ filler => filler
  | .retune _ _ filler => filler
  | .setPosition _ _ filler => filler
  | .writeProfile _ _ filler => filler
  | .readProfile _ filler => filler
  | .stationStore _ _ _ _ _ filler => filler
  | .stationTeach _ _ filler => filler
  | .stationRead _ filler => filler
  | .stationClear _ _ filler => filler
  | .markAdd _ _ _ _ filler => filler
  | .markRemove _ _ filler => filler
  | .markList _ filler => filler
  | .readJournal _ _ filler => filler
  | .ackJournal _ filler => filler
  | .readEvents filler => filler
  | .clearEvents _ filler => filler
  | .clearColdFlag filler => filler
  | .softReset filler => filler
  | .frameRejected _ => []
  | .syncFallingEdge _ => []
  | .syncHigh _ => []
  | .limitAssert _ _ => []
  | .limitRelease _ _ => []
  | .homeAssert _ => []
  | .homeRelease _ => []
  | .emergencyAssert _ => []
  | .emergencyRelease _ => []
  | .pinReset => []
  | .pinResetRelease _ => []
  | .powerOn => []
  | .pulse _ => []
  | .dwellTimeout _ => []
  | .armTimeout _ => []
  | .admissionAttempt _ => []
  | .supplyOutOfRange => []
  | .chipSelectFall => []

/-- The frame a request travels in (R176). -/
def frameOfRequest (i : Instr) : Option (List Byte) :=
  (payloadOfRequest i).map (fun p => requestFrame p.1.code p.2)

/-- The command that the whole bytes of a transaction make when chip-select rises: none for a transaction of no byte (R175), a
rejected frame where a check of R180 fails, and otherwise the request, the bytes after its CRC byte its filler (R176). -/
def commandOfTransaction (bytes : List Byte) : Option Instr :=
  if bytes = [] then none
  else match linkCheck (bytes.take Config.frameBytes) with
    | some _ => some (.frameRejected bytes)
    | none => match bytes with
      | kind :: len :: rest =>
        (RequestKind.ofCode kind).bind (fun k => requestOfPayload (rest.drop (len.toNat + 1)) k (rest.take len.toNat))
      | _ => none

/-- The table's rows give no bits, so no word spells a command (log 17). -/
def decodeTableWord (_nbits _w : Nat) : Option Instr := none

end Sys2Proof
end

