-- ==== Sys2Proof/WellFormed.lean ====
section
/-! DEFINITION. Which commands the table's rows stand for: a QUEUE MOVES carries 1 to 4 records (R9), and a rejected frame is a
transaction of at least one byte that fails a check of R180. Every other term is well formed, its payload codes included: a code
outside its list is refused by its owner (R203). -/

namespace Sys2Proof

/-- The commands that are events of the part. -/
def Instr.wellFormed : Instr → Bool
  | .queueMoves _ moves _ => decide (1 ≤ moves.length ∧ moves.length ≤ 4)
  | .frameRejected bytes => decide (bytes ≠ []) && (linkCheck (bytes.take Config.frameBytes)).isSome
  | .nop _ | .getStatus _ | .getSettings _ | .setSettings _ _ | .flushQueue _ _ | .stopAxis _ _ _ _ | .resumeAxis _ _
  | .retune _ _ _ | .setPosition _ _ _ | .writeProfile _ _ _ | .readProfile _ _ | .stationStore _ _ _ _ _ _
  | .stationTeach _ _ _ | .stationRead _ _ | .stationClear _ _ _ | .markAdd _ _ _ _ _ | .markRemove _ _ _ | .markList _ _
  | .readJournal _ _ _ | .ackJournal _ _ | .readEvents _ | .clearEvents _ _ | .clearColdFlag _ | .softReset _
  | .syncFallingEdge _ | .syncHigh _
  | .limitAssert _ _ | .limitRelease _ _ | .homeAssert _ | .homeRelease _ | .emergencyAssert _ | .emergencyRelease _
  | .pinReset | .pinResetRelease _ | .powerOn | .pulse _ | .dwellTimeout _ | .armTimeout _ | .admissionAttempt _
  | .supplyOutOfRange | .chipSelectFall => true

end Sys2Proof
end

