-- ==== Sys2Proof/Machine/State.lean ====
section
/-! DEFINITION. Everything the spec gives the part, as plain data, and the part right after power-on. -/

namespace Sys2Proof.Machine

/-! ### The codes of 12.7 as types -/

/-- What a move does (R1, R2). -/
inductive MoveKind where
  | relative | absolute | station | run | home | dwell
  deriving DecidableEq, Repr

/-- What a move waits for after admission (R3). -/
inductive Start where
  | now | line | pair
  deriving DecidableEq, Repr

/-- How a stop ends a move (R85, R20). -/
inductive Style where
  | immediate | ramped
  deriving DecidableEq, Repr

/-- What a stop leaves the axis to do: CONTINUE, HALT or FLUSH (R86). -/
inductive AfterAction where
  | proceed | halt | flush
  deriving DecidableEq, Repr

/-- Axis states (R41). -/
inductive AxisState where
  | idle | blocked | armed | running | stopping | halted
  deriving DecidableEq, Repr

/-- Phases of a current move (R26). -/
inductive Phase where
  | none | accel | cruise | slowing | decel | settle | wait | stopping
  deriving DecidableEq, Repr

/-- The direction of the pulse that may fire a mark (R112). -/
inductive Sense where
  | up | down | either
  deriving DecidableEq, Repr

/-- Which level of the direction output means + (R185). -/
inductive Polarity where
  | normal | inverted
  deriving DecidableEq, Repr

/-- The three groups of event flags (R194). -/
inductive EventGroup where
  | system | journal | axis
  deriving DecidableEq, Repr

/-- The eight event flags (R194), in the order of their bits (12.7). -/
inductive Event where
  | restart | linkError | journalLost | journalThreshold | aHalted | aDrained | bHalted | bDrained
  deriving DecidableEq, Repr

/-- The six group orders (R185, 12.7), named by their groups in order. -/
inductive GroupOrder where
  | systemJournalAxis | systemAxisJournal | journalSystemAxis | journalAxisSystem | axisSystemJournal | axisJournalSystem
  deriving DecidableEq, Repr

/-- Causes of a journal record (R137). -/
inductive Cause where
  | none | hostStop | emergency | limit | homeFound | homeNotFound | range | noStation | limitActive | armTimeout
  | pairMismatch | pairBroken | reset
  deriving DecidableEq, Repr

/-- Kinds of a journal record (R136). -/
inductive RecordKind where
  | done | stopped | refused | interrupted | flushed | halt | mark | gap | restart
  deriving DecidableEq, Repr

/-- Restart kinds of a RESTART record (R160). -/
inductive RestartKind where
  | powerOn | retainFault | pin | soft
  deriving DecidableEq, Repr

/-- Statuses of a reply (R182). -/
inductive Status where
  | ok | invalid | busy | full | notFound | duplicate | emergency
  | frameError | crcError | unknownKind | lengthError | restarted
  deriving DecidableEq, Repr

/-- The code of a restart kind, as the small field of a RESTART record carries it (12.7). -/
def RestartKind.code : RestartKind → Byte
  | .powerOn => 0x01#8
  | .retainFault => 0x02#8
  | .pin => 0x03#8
  | .soft => 0x04#8

/-! ### Moves and profiles -/

/-- A valid move record, its nine fields (R1). -/
structure Move where
  kind : MoveKind
  profile : Fin 8
  start : Start
  direction : Direction
  capture : Bool
  pair : Byte
  tag : Half
  value : Word
  aux : Word
  deriving DecidableEq, Repr

/-- A profile table entry (R20). -/
structure Profile where
  base : Nat
  cruise : Nat
  ramp : Nat
  settle : Nat
  limitStyle : Style
  homeStyle : Style
  deriving DecidableEq, Repr

/-- The cold values of every profile (R21). -/
def Profile.cold : Profile where
  base := 200
  cruise := 2000
  ramp := 20
  settle := 0
  limitStyle := .immediate
  homeStyle := .immediate

/-- The profile snapshot of a current move: the six fields, the top level and the ceiling (R24, R25). -/
structure Snapshot where
  base : Nat
  cruise : Nat
  ramp : Nat
  settle : Nat
  limitStyle : Style
  homeStyle : Style
  top : Nat
  ceiling : Nat
  deriving DecidableEq, Repr

/-- A pending stop (R86). -/
structure PendingStop where
  style : Style
  cause : Cause
  after : AfterAction
  deriving DecidableEq, Repr

/-- The current-move slot (R40), with the length of the pulse interval in progress (R54). -/
structure Slot where
  move : Move
  snap : Snapshot
  direction : Option Direction
  distance : Option Nat
  phase : Phase
  level : Nat
  delivered : Word
  afterCapture : Option Word
  dwell : Option Nat
  stop : Option PendingStop
  armTimer : Option Nat
  interval : Option Nat
  deriving DecidableEq, Repr

/-! ### Marks, lines and axes -/

/-- A position mark (R112). -/
structure Mark where
  id : Byte
  position : Word
  sense : Sense
  deriving DecidableEq, Repr

/-- The line levels one engine has last taken: true is asserted, and for the sync line high (R189, R205). -/
structure Lines where
  limitPlus : Bool
  limitMinus : Bool
  home : Bool
  emergency : Bool
  syncHigh : Bool
  deriving DecidableEq, Repr

/-- The switch inputs of one axis at the part's pins, after the filter. -/
structure Switches where
  limitPlus : Bool
  limitMinus : Bool
  home : Bool
  deriving DecidableEq, Repr

/-- The line inputs at the part's pins, after the filter (R205). -/
structure Pins where
  a : Switches
  b : Switches
  emergency : Bool
  syncHigh : Bool
  deriving DecidableEq, Repr

/-- A report of a shared line: the level that the input monitor reports to both engines (R205). -/
inductive Report where
  | emergency (asserted : Bool)
  | sync (high : Bool)
  deriving DecidableEq, Repr

/-- One axis: its engine (R39), its move queue (R7), its mark table (R112), the lines its engine last took, the reports of the shared
lines made to the engine and not yet taken, oldest first (R205), and the number of rising edges its step output has given (R55,
log 13). -/
structure AxisUnit where
  state : AxisState
  slot : Option Slot
  position : Word
  lastDirection : Direction
  queue : List Move
  marks : List Mark
  lines : Lines
  reports : List Report
  stepEdges : Nat
  deriving DecidableEq, Repr

/-! ### Journal, stations and the retained set -/

/-- The content of a journal record, without its number (R137). An absent tag or extra is none. -/
structure Entry where
  kind : RecordKind
  axis : Option Axis
  halted : Bool
  tag : Option Half
  cause : Cause
  small : Byte
  pulses : Word
  position : Word
  extra : Option (Half × Half)
  deriving DecidableEq, Repr

/-- A journal record: its sequence number and its content (R137). -/
structure Record where
  seq : Half
  entry : Entry
  deriving DecidableEq, Repr

/-- The journal (R133). Held is the number of records. -/
structure Journal where
  records : List Record
  seq : Half
  lost : Nat
  reserved : Nat
  waitList : List Axis
  deriving DecidableEq, Repr

/-- A station: an optional position for each axis (R123). -/
structure Station where
  a : Option Word
  b : Option Word
  deriving DecidableEq, Repr

/-- The retained set (R166). -/
structure Retained where
  positionA : Word
  positionB : Word
  records : List Record
  seq : Half
  lost : Nat
  stations : Vector Station 32
  profiles : Vector Profile 8
  deriving DecidableEq, Repr

/-! ### Settings and link -/

/-- The settings record (R185). -/
structure Settings where
  emergencyStyle : Style
  armLimit : Half
  polarityA : Polarity
  polarityB : Polarity
  threshold : Byte
  enableMask : Byte
  groupOrder : GroupOrder
  axisFirst : Axis
  deriving DecidableEq, Repr

/-- The defaults every reset installs (R185). -/
def Settings.default : Settings where
  emergencyStyle := .immediate
  armLimit := 0#16
  polarityA := .normal
  polarityB := .normal
  threshold := 1#8
  enableMask := 0xFF#8
  groupOrder := .systemJournalAxis
  axisFirst := .A

/-- A reply as the reply slot holds it; its length and CRC follow from it (R178). -/
structure Reply where
  status : Status
  kind : Byte
  payload : List Byte
  deriving DecidableEq, Repr

/-- The reset reply (R174). -/
def Reply.restarted : Reply where
  status := .restarted
  kind := 0#8
  payload := []

/-- The bytes of a transaction and their count (R174, R176). -/
structure Receiver where
  bytes : List Byte
  count : Nat
  deriving DecidableEq, Repr

/-- The receiver with no byte. -/
def Receiver.empty : Receiver where
  bytes := []
  count := 0

/-- Chip-select: high, low in a transaction the link takes, or low in one it ignores whole (R175, R184). -/
inductive ChipSelect where
  | high | low | ignored
  deriving DecidableEq, Repr

/-- The serial link (R174); shifted is the reply the latest chip-select fall fixed for shifting out (R183). -/
structure Link where
  chipSelect : ChipSelect
  receiver : Receiver
  slot : Reply
  shifted : Option Reply
  deriving DecidableEq, Repr

/-- Supply and reset: off; held after the supply rose with the reset line low; held by a pin reset; running (R160 to R163). -/
inductive Power where
  | off | heldPowerOn | heldPin | running
  deriving DecidableEq, Repr

/-! ### The machine -/

/-- The part. -/
structure State where
  power : Power
  resetLow : Bool
  pins : Pins
  a : AxisUnit
  b : AxisUnit
  profiles : Vector Profile 8
  stations : Vector Station 32
  journal : Journal
  check : Retained
  coldFlag : Bool
  events : Byte
  settings : Settings
  link : Link
  pending : List Instr
  deriving DecidableEq, Repr

/-- No rule of the spec stops the part, so no command raises a fault. -/
inductive Fault where
  deriving DecidableEq, Repr

/-- Why a command has no meaning. -/
inductive Refusal where
  /-- Raised by an arm of exec for a row without a meaning; no arm raises it now. It would be safe. -/
  | notModelled (mnemonic : String)
  /-- Raised by FRAME_REJECTED on bytes that pass every check of R180, which are a request and not that event. It is safe. -/
  | frameNotRejected
  deriving DecidableEq, Repr

/-! ### Right after power-on -/

/-- Every line at rest, as the engines see it (log 8). -/
def Lines.rest : Lines where
  limitPlus := false
  limitMinus := false
  home := false
  emergency := false
  syncHigh := true

/-- No switch asserted (log 8). -/
def Switches.rest : Switches where
  limitPlus := false
  limitMinus := false
  home := false

/-- Every input at rest (log 8). -/
def Pins.rest : Pins where
  a := Switches.rest
  b := Switches.rest
  emergency := false
  syncHigh := true

/-- An axis after cold initialisation with every line at rest (R39, R69). -/
def AxisUnit.cold : AxisUnit where
  state := .idle
  slot := none
  position := 0#32
  lastDirection := .plus
  queue := []
  marks := []
  lines := Lines.rest
  reports := []
  stepEdges := 0

/-- An empty station (R124). -/
def Station.empty : Station where
  a := none
  b := none

/-- A RESTART record's content (R138, R171). -/
def Entry.restart (kind : RestartKind) (discardA discardB : Half) : Entry where
  kind := .restart
  axis := none
  halted := false
  tag := none
  cause := .none
  small := kind.code
  pulses := 1#32
  position := 0#32
  extra := some (discardA, discardB)

/-- The journal after a cold initialisation (R133, R151). -/
def Journal.cold (kind : RestartKind) : Journal where
  records := [⟨1#16, Entry.restart kind 0#16 0#16⟩]
  seq := 2#16
  lost := 0
  reserved := 0
  waitList := []

/-- The retained set after a cold initialisation (R168). -/
def Retained.cold (kind : RestartKind) : Retained where
  positionA := 0#32
  positionB := 0#32
  records := (Journal.cold kind).records
  seq := (Journal.cold kind).seq
  lost := 0
  stations := Vector.replicate 32 Station.empty
  profiles := Vector.replicate 8 Profile.cold

/-- The machine right after power-on (R161, R168), with every line at rest (log 8). -/
def State.reset : State where
  power := .running
  resetLow := false
  pins := Pins.rest
  a := AxisUnit.cold
  b := AxisUnit.cold
  profiles := Vector.replicate 8 Profile.cold
  stations := Vector.replicate 32 Station.empty
  journal := Journal.cold .powerOn
  check := Retained.cold .powerOn
  coldFlag := true
  events := 1#8
  settings := Settings.default
  link := ⟨.high, Receiver.empty, Reply.restarted, none⟩
  pending := []

end Sys2Proof.Machine
end

