-- ==== Sys2Proof/Machine/Operands.lean ====
section
/-! DEFINITION. Operand forms: the codes of 12.7 read and written, selectors (R193), field codes, the checks of a move record (R6),
of a profile (R22) and of a settings record (R186), and the bytes of every item a reply carries (12.4, 12.5, 12.6). -/

namespace Sys2Proof.Machine

/-! ### Field codes (12.7) -/

/-- The field codes of 12.7. -/
inductive FieldCode where
  | none | axis | kind | profile | start | pair | direction | capture | value | aux
  | index | base | cruise | ramp | settle | limitStyle | homeStyle
  | style | afterAction | id | sense | station | presenceA | valueA | presenceB | valueB
  | count | emergencyStyle | polarityA | polarityB | threshold | groupOrder | axisOrder
  deriving DecidableEq, Repr

/-- The byte of a field code (12.7). -/
def FieldCode.code : FieldCode → Byte
  | .none => 0x00#8
  | .axis => 0x01#8
  | .kind => 0x02#8
  | .profile => 0x03#8
  | .start => 0x04#8
  | .pair => 0x05#8
  | .direction => 0x06#8
  | .capture => 0x07#8
  | .value => 0x08#8
  | .aux => 0x09#8
  | .index => 0x10#8
  | .base => 0x11#8
  | .cruise => 0x12#8
  | .ramp => 0x13#8
  | .settle => 0x14#8
  | .limitStyle => 0x15#8
  | .homeStyle => 0x16#8
  | .style => 0x18#8
  | .afterAction => 0x19#8
  | .id => 0x20#8
  | .sense => 0x21#8
  | .station => 0x28#8
  | .presenceA => 0x29#8
  | .valueA => 0x2A#8
  | .presenceB => 0x2B#8
  | .valueB => 0x2C#8
  | .count => 0x30#8
  | .emergencyStyle => 0x38#8
  | .polarityA => 0x39#8
  | .polarityB => 0x3A#8
  | .threshold => 0x3B#8
  | .groupOrder => 0x3C#8
  | .axisOrder => 0x3D#8

/-! ### Codes read (12.7, R203): none is a code outside the list -/

/-- A selector that must name one axis (R193). -/
def axisOfSelector (b : Byte) : Option Axis :=
  if b = 1#8 then some .A else if b = 2#8 then some .B else none

/-- A selector or axis set that may name both axes: does it name A, does it name B (R193). -/
def axesOfSelector (b : Byte) : Option (Bool × Bool) :=
  if b = 1#8 then some (true, false) else if b = 2#8 then some (false, true) else if b = 3#8 then some (true, true) else none

/-- A move kind nibble. -/
def moveKindOfCode (n : BitVec 4) : Option MoveKind :=
  if n = 1#4 then some .relative else if n = 2#4 then some .absolute else if n = 3#4 then some .station
  else if n = 4#4 then some .run else if n = 5#4 then some .home else if n = 6#4 then some .dwell else none

/-- A start nibble. -/
def startOfCode (n : BitVec 4) : Option Start :=
  if n = 0#4 then some .now else if n = 1#4 then some .line else if n = 2#4 then some .pair else none

/-- The direction bits of a move record (12.3). -/
def directionOfCode (n : BitVec 2) : Option Direction :=
  if n = 0#2 then some .plus else if n = 1#2 then some .minus else none

/-- The capture bits of a move record (12.3). -/
def captureOfCode (n : BitVec 2) : Option Bool :=
  if n = 0#2 then some false else if n = 1#2 then some true else none

/-- A style, limit style, home style or emergency style. -/
def styleOfCode (b : Byte) : Option Style :=
  if b = 0#8 then some .immediate else if b = 1#8 then some .ramped else none

/-- An after-action. -/
def afterOfCode (b : Byte) : Option AfterAction :=
  if b = 0#8 then some .proceed else if b = 1#8 then some .halt else if b = 2#8 then some .flush else none

/-- A mark's sense. -/
def senseOfCode (b : Byte) : Option Sense :=
  if b = 1#8 then some .up else if b = 2#8 then some .down else if b = 3#8 then some .either else none

/-- What STATION STORE does with one position (R125). -/
inductive Presence where
  | absent | present | leave
  deriving DecidableEq, Repr

/-- A presence. -/
def presenceOfCode (b : Byte) : Option Presence :=
  if b = 0#8 then some .absent else if b = 1#8 then some .present else if b = 2#8 then some .leave else none

/-- A direction polarity. -/
def polarityOfCode (b : Byte) : Option Polarity :=
  if b = 0#8 then some .normal else if b = 1#8 then some .inverted else none

/-- A group order. -/
def groupOrderOfCode (b : Byte) : Option GroupOrder :=
  if b = 0#8 then some .systemJournalAxis else if b = 1#8 then some .systemAxisJournal
  else if b = 2#8 then some .journalSystemAxis else if b = 3#8 then some .journalAxisSystem
  else if b = 4#8 then some .axisSystemJournal else if b = 5#8 then some .axisJournalSystem else none

/-- An axis order: the axis that comes first. -/
def axisOrderOfCode (b : Byte) : Option Axis :=
  if b = 0#8 then some .A else if b = 1#8 then some .B else none

/-! ### Codes written (12.2, 12.7) -/

/-- The byte of a status (12.2). -/
def Status.code : Status → Byte
  | .ok => 0x00#8
  | .invalid => 0x01#8
  | .busy => 0x02#8
  | .full => 0x03#8
  | .notFound => 0x04#8
  | .duplicate => 0x05#8
  | .emergency => 0x06#8
  | .frameError => 0x10#8
  | .crcError => 0x11#8
  | .unknownKind => 0x12#8
  | .lengthError => 0x13#8
  | .restarted => 0x20#8

/-- The status of a link error (R180). -/
def statusOfLinkError : LinkError → Status
  | .frameError => .frameError
  | .crcError => .crcError
  | .unknownKind => .unknownKind
  | .lengthError => .lengthError

/-- The byte of a style. -/
def Style.code : Style → Byte
  | .immediate => 0x00#8
  | .ramped => 0x01#8

/-- The byte of an axis state. -/
def AxisState.code : AxisState → Byte
  | .idle => 0x00#8
  | .blocked => 0x01#8
  | .armed => 0x02#8
  | .running => 0x03#8
  | .stopping => 0x04#8
  | .halted => 0x05#8

/-- The byte of a phase. -/
def Phase.code : Phase → Byte
  | .none => 0x00#8
  | .accel => 0x01#8
  | .cruise => 0x02#8
  | .slowing => 0x03#8
  | .decel => 0x04#8
  | .settle => 0x05#8
  | .wait => 0x06#8
  | .stopping => 0x07#8

/-- The byte of a sense. -/
def Sense.code : Sense → Byte
  | .up => 0x01#8
  | .down => 0x02#8
  | .either => 0x03#8

/-- The byte of a polarity. -/
def Polarity.code : Polarity → Byte
  | .normal => 0x00#8
  | .inverted => 0x01#8

/-- The byte of a group order. -/
def GroupOrder.code : GroupOrder → Byte
  | .systemJournalAxis => 0x00#8
  | .systemAxisJournal => 0x01#8
  | .journalSystemAxis => 0x02#8
  | .journalAxisSystem => 0x03#8
  | .axisSystemJournal => 0x04#8
  | .axisJournalSystem => 0x05#8

/-- The byte of an axis order, given the axis that comes first. -/
def axisOrderCode : Axis → Byte
  | .A => 0x00#8
  | .B => 0x01#8

/-- The byte of a record kind. -/
def RecordKind.code : RecordKind → Byte
  | .done => 0x01#8
  | .stopped => 0x02#8
  | .refused => 0x03#8
  | .interrupted => 0x04#8
  | .flushed => 0x05#8
  | .halt => 0x06#8
  | .mark => 0x07#8
  | .gap => 0x08#8
  | .restart => 0x09#8

/-- The byte of a cause. -/
def Cause.code : Cause → Byte
  | .none => 0x00#8
  | .hostStop => 0x01#8
  | .emergency => 0x02#8
  | .limit => 0x03#8
  | .homeFound => 0x04#8
  | .homeNotFound => 0x05#8
  | .range => 0x06#8
  | .noStation => 0x07#8
  | .limitActive => 0x08#8
  | .armTimeout => 0x09#8
  | .pairMismatch => 0x0A#8
  | .pairBroken => 0x0B#8
  | .reset => 0x0C#8

/-! ### A move record's checks (R2 to R6) -/

/-- The kinds whose direction field carries no meaning and must hold + (R2). -/
def MoveKind.fixedDirection : MoveKind → Bool
  | .absolute | .station | .dwell => true
  | .relative | .run | .home => false

/-- The values R2 admits for a kind. -/
def MoveKind.admits (k : MoveKind) (v : Word) : Bool :=
  match k with
  | .relative => decide (v.toNat ≤ Config.distanceLimit)
  | .absolute => true
  | .station => decide (v.toNat ≤ 31)
  | .run => decide (v = 0#32)
  | .home => decide (1 ≤ v.toNat ∧ v.toNat ≤ Config.distanceLimit)
  | .dwell => decide (1 ≤ v.toNat ∧ v.toNat ≤ Config.dwellLimit)

/-- The pair numbers R3 admits for a start. -/
def Start.admitsPair (st : Start) (pair : Byte) : Bool :=
  match st with
  | .pair => decide (1 ≤ pair.toNat ∧ pair.toNat ≤ 15)
  | .now | .line => decide (pair = 0#8)

/-- One record checked field by field in the order of R6: its first failing field, or the move. -/
def checkMove (r : RawMove) : Except FieldCode Move :=
  match moveKindOfCode r.kind with
  | none => .error .kind
  | some kind =>
    if hp : r.profile.toNat < 8 then
      match startOfCode r.start with
      | none => .error .start
      | some start =>
        if start.admitsPair r.pair then
          match directionOfCode r.direction with
          | none => .error .direction
          | some direction =>
            if kind.fixedDirection && direction == .minus then .error .direction
            else match captureOfCode r.capture with
              | none => .error .capture
              | some capture =>
                if capture && kind != .home then .error .capture
                else if kind.admits r.value then
                  if r.aux ≠ 0#32 ∧ ¬ (kind = .home ∧ capture = true) then .error .aux
                  else .ok ⟨kind, ⟨r.profile.toNat, hp⟩, start, direction, capture, r.pair, r.tag, r.value, r.aux⟩
                else .error .value
        else .error .pair
    else .error .profile

/-- The records of a request checked in frame order (R10): the first that fails, counted from the given number, or all the moves. -/
def checkMoves (n : Nat) : List RawMove → Except (Nat × FieldCode) (List Move)
  | [] => .ok []
  | r :: rest =>
    match checkMove r with
    | .error f => .error (n, f)
    | .ok m =>
      match checkMoves (n + 1) rest with
      | .error e => .error e
      | .ok ms => .ok (m :: ms)

/-! ### A profile's checks (R22) -/

/-- The index and the six fields checked in the order of R22. -/
def checkProfile (index : Byte) (r : RawProfile) : Except FieldCode (Fin 8 × Profile) :=
  if hi : index.toNat < 8 then
    if r.base.toNat = 0 ∨ Config.rateLimit < r.base.toNat then .error .base
    else if Config.rateLimit < r.cruise.toNat ∨ r.cruise.toNat < r.base.toNat then .error .cruise
    else if r.ramp.toNat = 0 then .error .ramp
    else if Config.settleLimit < r.settle.toNat then .error .settle
    else match styleOfCode r.limitStyle with
      | none => .error .limitStyle
      | some limitStyle => match styleOfCode r.homeStyle with
        | none => .error .homeStyle
        | some homeStyle =>
          .ok (⟨index.toNat, hi⟩,
            ⟨r.base.toNat, r.cruise.toNat, r.ramp.toNat, r.settle.toNat, limitStyle, homeStyle⟩)
  else .error .index

/-- A profile as the link carries it. -/
def Profile.raw (p : Profile) : RawProfile where
  base := BitVec.ofNat 32 p.base
  cruise := BitVec.ofNat 32 p.cruise
  ramp := BitVec.ofNat 16 p.ramp
  settle := BitVec.ofNat 16 p.settle
  limitStyle := p.limitStyle.code
  homeStyle := p.homeStyle.code

/-! ### A settings record's checks (R186, checks 1 to 6) -/

/-- The eight fields checked in the order of R186. -/
def checkSettings (r : RawSettings) : Except FieldCode Settings :=
  match styleOfCode r.emergencyStyle with
  | none => .error .emergencyStyle
  | some emergencyStyle =>
    match polarityOfCode r.polarityA with
    | none => .error .polarityA
    | some polarityA =>
      match polarityOfCode r.polarityB with
      | none => .error .polarityB
      | some polarityB =>
        if r.threshold.toNat = 0 ∨ 128 < r.threshold.toNat then .error .threshold
        else match groupOrderOfCode r.groupOrder with
          | none => .error .groupOrder
          | some groupOrder =>
            match axisOrderOfCode r.axisOrder with
            | none => .error .axisOrder
            | some axisFirst =>
              .ok ⟨emergencyStyle, r.armLimit, polarityA, polarityB, r.threshold, r.enableMask, groupOrder, axisFirst⟩

/-- The settings record as the link carries it (12.6). -/
def Settings.raw (c : Settings) : RawSettings where
  emergencyStyle := c.emergencyStyle.code
  armLimit := c.armLimit
  polarityA := c.polarityA.code
  polarityB := c.polarityB.code
  threshold := c.threshold
  enableMask := c.enableMask
  groupOrder := c.groupOrder.code
  axisOrder := axisOrderCode c.axisFirst

/-! ### Items of replies (12.4, 12.5) -/

/-- A count of at most one byte. -/
def byteOf (n : Nat) : Byte := BitVec.ofNat 8 n

/-- A flag as a bit of a byte. -/
def bitOf (n : Nat) (flag : Bool) : Byte :=
  if flag then 1#8 <<< n else 0#8

/-- The axis bits of a journal record (12.4). -/
def axisBits : Option Axis → Byte
  | none => 0#8
  | some .A => 1#8
  | some .B => 2#8

/-- The 20 bytes of a journal record (12.4). -/
def Record.bytes (r : Record) : List Byte :=
  bytes2 r.seq ++
    [r.entry.kind.code,
     bitOf 7 r.entry.halted ||| bitOf 6 r.entry.tag.isNone ||| bitOf 5 r.entry.extra.isNone ||| axisBits r.entry.axis] ++
    bytes2 (r.entry.tag.getD 0#16) ++ [r.entry.cause.code, r.entry.small] ++ bytes4 r.entry.pulses ++ bytes4 r.entry.position ++
    bytes2 (r.entry.extra.getD (0#16, 0#16)).1 ++ bytes2 (r.entry.extra.getD (0#16, 0#16)).2

/-- A position with its presence, value 0 when absent (R129, 12.5). -/
def positionBytes : Option Word → List Byte
  | none => 0#8 :: bytes4 0#32
  | some p => 1#8 :: bytes4 p

/-- The entries of a MARK LIST reply (12.5). -/
def Mark.bytes (m : Mark) : List Byte :=
  [m.id] ++ bytes4 m.position ++ [m.sense.code]

/-- The bytes of a reply frame: status, echoed kind, length, payload and CRC (R178). -/
def Reply.bytes (r : Reply) : List Byte :=
  let covered := r.status.code :: r.kind :: byteOf r.payload.length :: r.payload
  covered ++ [crc8 covered]

/-- The n bytes the link shifts out in a transaction that clocks n: the reply's bytes and then zeros (R178). -/
def Reply.shiftOut (r : Reply) (n : Nat) : List Byte :=
  r.bytes.take n ++ List.replicate (n - r.bytes.length) 0#8

end Sys2Proof.Machine
end

