-- ==== Sys2Proof/Machine/Flags.lean ====
section
/-! DEFINITION. The event unit (chapter 11): the eight flags as bits of the pending set, the interrupt output, and the leading event. -/

namespace Sys2Proof.Machine

/-- The bit number of a flag (12.7). -/
def Event.bit : Event → Nat
  | .restart => 0
  | .linkError => 1
  | .journalLost => 2
  | .journalThreshold => 3
  | .aHalted => 4
  | .aDrained => 5
  | .bHalted => 6
  | .bDrained => 7

/-- The flag's bit alone. -/
def Event.mask (e : Event) : Byte := 1#8 <<< e.bit

/-- The AXIS_HALTED event of an axis (R194). -/
def haltedEvent : Axis → Event
  | .A => .aHalted
  | .B => .bHalted

/-- The AXIS_DRAINED event of an axis (R194). -/
def drainedEvent : Axis → Event
  | .A => .aDrained
  | .B => .bDrained

/-- A source sets a flag; the other flags stay as they are (R195). -/
def State.setEvent (s : State) (e : Event) : State :=
  { s with events := s.events ||| e.mask }

/-- Is a flag pending. -/
def State.isPending (s : State) (e : Event) : Bool := s.events.getLsbD e.bit

/-- The interrupt output is driven low: some flag is pending and enabled (R196), outside a held reset (R163). That it is released without
supply too, whatever the reset line's level, is the model's choice (log 14). -/
def State.irqLow (s : State) : Bool :=
  s.power == .running && (s.events &&& s.settings.enableMask) != 0#8

/-- The groups in the order a group order names them (12.7). -/
def GroupOrder.groups : GroupOrder → List EventGroup
  | .systemJournalAxis => [.system, .journal, .axis]
  | .systemAxisJournal => [.system, .axis, .journal]
  | .journalSystemAxis => [.journal, .system, .axis]
  | .journalAxisSystem => [.journal, .axis, .system]
  | .axisSystemJournal => [.axis, .system, .journal]
  | .axisJournalSystem => [.axis, .journal, .system]

/-- The flags of a group in order, given the axis that comes first (R198). -/
def EventGroup.flags (first : Axis) : EventGroup → List Event
  | .system => [.restart, .linkError]
  | .journal => [.journalLost, .journalThreshold]
  | .axis => [haltedEvent first, drainedEvent first, haltedEvent first.other, drainedEvent first.other]

/-- The one list of the eight flags that the settings order (R198). -/
def Settings.eventOrder (c : Settings) : List Event :=
  c.groupOrder.groups.flatMap (EventGroup.flags c.axisFirst)

/-- The leading event: the first flag of the order that is pending and enabled (R198). -/
def State.leadingEvent (s : State) : Option Event :=
  s.settings.eventOrder.find? (fun e => (s.events &&& s.settings.enableMask).getLsbD e.bit)

/-- The byte of the leading event: 0 for NONE, else the bit number plus 1 (12.7). -/
def leadingCode : Option Event → Byte
  | none => 0#8
  | some e => byteOf (e.bit + 1)

/-- The reply of READ EVENTS and CLEAR EVENTS: pending set, enable mask and leading event (R199, R200). -/
def State.eventReply (s : State) : List Byte :=
  [s.events, s.settings.enableMask, leadingCode s.leadingEvent]

end Sys2Proof.Machine
end

