-- ==== Sys2Proof/Machine/Ops.lean ====
section
/-! DEFINITION. The shared operations over the part's state: its axes and lines, the retained store, the journal and its claims, the
queues' flush, and the link's taking of a request. -/

namespace Sys2Proof.Machine

/-! ### Axes and lines -/

/-- One axis of the part. -/
def State.axis (s : State) : Axis → AxisUnit
  | .A => s.a
  | .B => s.b

/-- The part with one axis replaced. -/
def State.setAxis (s : State) (x : Axis) (u : AxisUnit) : State :=
  match x with
  | .A => { s with a := u }
  | .B => { s with b := u }

/-- The part with one axis changed. -/
def State.onAxis (s : State) (x : Axis) (f : AxisUnit → AxisUnit) : State :=
  s.setAxis x (f (s.axis x))

/-- The axis is in the given state, all else as it was. -/
def State.setAxisState (s : State) (x : Axis) (st : AxisState) : State :=
  s.onAxis x (fun u => { u with state := st })

/-- The axis's current-move slot, all else as it was. -/
def State.setSlot (s : State) (x : Axis) (sl : Option Slot) : State :=
  s.onAxis x (fun u => { u with slot := sl })

/-- The axis's queue, all else as it was. -/
def State.setQueue (s : State) (x : Axis) (q : List Move) : State :=
  s.onAxis x (fun u => { u with queue := q })

/-- The axis's mark table, all else as it was. -/
def State.setMarks (s : State) (x : Axis) (ms : List Mark) : State :=
  s.onAxis x (fun u => { u with marks := ms })

/-- The part takes happenings: it is powered and no reset holds it (R163). -/
def State.live (s : State) : Bool := s.power == .running

/-- Is a limit line reported asserted. -/
def Lines.limit (l : Lines) : Direction → Bool
  | .plus => l.limitPlus
  | .minus => l.limitMinus

/-- The reported level of a limit line changes. -/
def Lines.setLimit (l : Lines) (d : Direction) (v : Bool) : Lines :=
  match d with
  | .plus => { l with limitPlus := v }
  | .minus => { l with limitMinus := v }

/-- A limit pin changes. -/
def Switches.setLimit (w : Switches) (d : Direction) (v : Bool) : Switches :=
  match d with
  | .plus => { w with limitPlus := v }
  | .minus => { w with limitMinus := v }

/-- The switch pins of an axis. -/
def Pins.switches (p : Pins) : Axis → Switches
  | .A => p.a
  | .B => p.b

/-- The switch pins of an axis change. -/
def Pins.setSwitches (p : Pins) (x : Axis) (w : Switches) : Pins :=
  match x with
  | .A => { p with a := w }
  | .B => { p with b := w }

/-- The levels an engine reads when the monitor reports every line as it stands (R70). -/
def Pins.lines (p : Pins) (x : Axis) : Lines where
  limitPlus := (p.switches x).limitPlus
  limitMinus := (p.switches x).limitMinus
  home := (p.switches x).home
  emergency := p.emergency
  syncHigh := p.syncHigh

/-- The lines last reported to an engine change. -/
def State.setLines (s : State) (x : Axis) (l : Lines) : State :=
  s.onAxis x (fun u => { u with lines := l })

/-- The reports of the shared lines that an engine has not yet taken. -/
def State.setReports (s : State) (x : Axis) (rs : List Report) : State :=
  s.onAxis x (fun u => { u with reports := rs })

/-- Both engines have taken every report of the emergency and sync lines (R205). -/
def State.reportsTaken (s : State) : Bool :=
  s.a.reports == [] && s.b.reports == []

/-- The pin of the reported line is at the reported level. -/
def Pins.holds (p : Pins) : Report → Bool
  | .emergency v => p.emergency == v
  | .sync h => p.syncHigh == h

/-- The pin of the reported line moves to the reported level. -/
def Pins.report (p : Pins) : Report → Pins
  | .emergency v => { p with emergency := v }
  | .sync h => { p with syncHigh := h }

/-- The pin of a shared line moves, all else as it was. -/
def State.movePin (s : State) (r : Report) : State := { s with pins := s.pins.report r }

/-- A shared line changes on a live part: its pin moves, and the input monitor reports the new level to both engines (R205). -/
def State.lineChanges (s : State) (r : Report) : State :=
  ((s.movePin r).setReports .A (s.a.reports ++ [r])).setReports .B (s.b.reports ++ [r])

/-- Two reports are of the same line. -/
def Report.sameLine : Report → Report → Bool
  | .emergency _, .emergency _ => true
  | .sync _, .sync _ => true
  | .emergency _, .sync _ => false
  | .sync _, .emergency _ => false

/-- The oldest report of a report's line in a list, and the others as they stand. -/
def Report.oldest (r : Report) : List Report → Option (Report × List Report)
  | [] => none
  | q :: rest => if q.sameLine r then some (q, rest) else (r.oldest rest).map (fun p => (p.1, q :: p.2))

/-- The number of reports of its line up to and including the oldest equal to it. -/
def Report.place (r : Report) : List Report → Nat
  | [] => 0
  | q :: rest => if q = r then 1 else if q.sameLine r then r.place rest + 1 else r.place rest

/-! ### Output pins, as functions of the state -/

/-- The direction output is high: the last direction under the polarity (R56, R57), and low while a reset holds the part (R163) or it has
no supply (log 14). -/
def State.directionHigh (s : State) (x : Axis) : Bool :=
  s.live &&
    ((s.axis x).lastDirection == .plus) ==
      ((match x with | .A => s.settings.polarityA | .B => s.settings.polarityB) == .normal)

/-- The serial data output is driven: inside a transaction the link takes (R175, R184), on a live part (R163; log 14). -/
def State.dataOutDriven (s : State) : Bool :=
  s.live && s.link.chipSelect == .low

/-! ### The retained store -/

/-- The retained set as it stands (R166). -/
def State.retained (s : State) : Retained where
  positionA := s.a.position
  positionB := s.b.position
  records := s.journal.records
  seq := s.journal.seq
  lost := s.journal.lost
  stations := s.stations
  profiles := s.profiles

/-- The check code is computed over the retained set (R166, log 5). -/
def State.seal (s : State) : State :=
  { s with check := s.retained }

/-- The retained check of R167: the code matches. -/
def State.checkPasses (s : State) : Bool :=
  s.check == s.retained

/-- A position counter changes, and the check code with it (R58, R166). -/
def State.setCounter (s : State) (x : Axis) (p : Word) : State :=
  (s.onAxis x (fun u => { u with position := p })).seal

/-! ### The journal -/

/-- Held records plus reservations. -/
def Journal.total (j : Journal) : Nat := j.records.length + j.reserved

/-- The admission rule: the claim counted, the total is at most 126 (R142). -/
def Journal.admits (j : Journal) : Bool :=
  decide (j.total + 1 ≤ Config.admissionLimit)

/-- The oldest number of the held window (R135). -/
def Journal.oldest (j : Journal) : Half :=
  match j.records with
  | [] => j.seq
  | r :: _ => r.seq

/-- The newest number of the held window: one before the counter (R135). -/
def Journal.newest (j : Journal) : Half := j.seq - 1#16

/-- A number lies within the held window (R135). -/
def Journal.inWindow (j : Journal) (n : Half) : Bool :=
  decide ((n - j.oldest).toNat < j.records.length)

/-- A journal change that keeps the check code with it. -/
def State.setJournal (s : State) (j : Journal) : State :=
  ({ s with journal := j }).seal

/-- JOURNAL_THRESHOLD is set when held has reached the threshold (R157). -/
def State.thresholdTest (s : State) : State :=
  if s.settings.threshold.toNat ≤ s.journal.records.length then s.setEvent .journalThreshold else s

/-- A record is numbered, placed after the newest, counted, covered by the check code, and tested against the threshold (R139). -/
def State.writeRecord (s : State) (e : Entry) : State :=
  (s.setJournal { s.journal with records := s.journal.records ++ [⟨s.journal.seq, e⟩], seq := s.journal.seq + 1#16 }).thresholdTest

/-- An ordinary record is dropped: lost rises by 1 up to its limit, and JOURNAL_LOST is set when it was 0 (R143, R158). -/
def State.dropRecord (s : State) : State :=
  let t := s.setJournal { s.journal with lost := min (s.journal.lost + 1) Config.countLimit }
  if s.journal.lost = 0 then t.setEvent .journalLost else t

/-- An ordinary record is offered: written or dropped by the admission rule (R142). -/
def State.offerRecord (s : State) (e : Entry) : State :=
  if s.journal.admits then s.writeRecord e else s.dropRecord

/-- A reservation is converted into its terminal record, whatever the journal holds (R141). -/
def State.convertReservation (s : State) (e : Entry) : State :=
  ({ s with journal := { s.journal with reserved := s.journal.reserved - 1 } }).writeRecord e

/-- A reservation is granted (R140). -/
def State.grantReservation (s : State) : State :=
  { s with journal := { s.journal with reserved := s.journal.reserved + 1 } }

/-- An axis leaves the wait list (R144). -/
def State.leaveWaitList (s : State) (x : Axis) : State :=
  { s with journal := { s.journal with waitList := s.journal.waitList.filter (fun y => y != x) } }

/-- A refused axis joins the tail of the wait list and is BLOCKED (R144). -/
def State.joinWaitList (s : State) (x : Axis) : State :=
  ({ s with journal := { s.journal with waitList := s.journal.waitList ++ [x] } }).setAxisState x .blocked

/-! ### Flushing a queue -/

/-- The content of a FLUSHED record: the run of removed records by its two ends (R17). -/
def Entry.flushed (x : Axis) (cause : Cause) (queue : List Move) (first last : Half) (position : Word) : Entry where
  kind := .flushed
  axis := some x
  halted := false
  tag := none
  cause := cause
  small := byteOf queue.length
  pulses := 0#32
  position := position
  extra := some (first, last)

/-- A BLOCKED axis whose queue a flush has emptied leaves the wait list and is IDLE; any other axis stays as it is (R18). -/
def State.unblockFlushed (s : State) (x : Axis) : State :=
  if (s.axis x).state = .blocked then (s.leaveWaitList x).setAxisState x .idle else s

/-- The queue of an axis is flushed: emptied, the axis unblocked, and a FLUSHED record offered; an empty queue changes nothing
(R16 to R19). -/
def State.flushQueue (s : State) (x : Axis) (cause : Cause) : State :=
  match (s.axis x).queue with
  | [] => s
  | m :: rest =>
    ((s.setQueue x []).unblockFlushed x).offerRecord
      (Entry.flushed x cause (m :: rest) m.tag ((m :: rest).getLast (List.cons_ne_nil m rest)).tag (s.axis x).position)

/-! ### The link -/

/-- What an owner hands back: status, reply payload and the part as the request left it (R181). -/
structure Answer where
  status : Status
  payload : List Byte
  state : State

/-- The part with another link. -/
def State.withLink (s : State) (l : Link) : State := { s with link := l }

/-- Chip-select is high again. -/
def State.chipSelectHigh (s : State) : State :=
  s.withLink { s.link with chipSelect := .high }

/-- The bytes of a transaction in the receiver, which keeps the first 67 and counts them all (R176). -/
def Receiver.take (bytes : List Byte) : Receiver where
  bytes := bytes.take Config.frameBytes
  count := bytes.length

/-- A transaction begins: the receiver is emptied and the reply to be shifted out is fixed (R175, R183). -/
def Link.begin (l : Link) : Link where
  chipSelect := .low
  receiver := Receiver.empty
  slot := l.slot
  shifted := some l.slot

/-- The reply fixed for a transaction that ends now. A command that finds chip-select high brings its own fall (log 1). -/
def Link.fixedReply (l : Link) : Option Reply :=
  if l.chipSelect = .high then some l.slot else l.shifted

/-- A transaction of these bytes ends with this reply in the reply slot (R175, R179). -/
def Link.replied (l : Link) (bytes : List Byte) (r : Reply) : Link where
  chipSelect := .high
  receiver := Receiver.take bytes
  slot := r
  shifted := l.fixedReply

/-- The bytes the host reads in the transaction that the receiver holds: the reply its fall fixed, and then zeros, as many as were clocked
(R178, R183). -/
def Link.bytesOut (l : Link) : List Byte :=
  match l.shifted with
  | none => []
  | some r => r.shiftOut l.receiver.count

/-- The link takes a transaction that ends now: the part is live and the transaction is not one it ignores (R163, R184). -/
def State.linkTakes (s : State) : Bool :=
  s.live && s.link.chipSelect != .ignored

/-- The link takes requests and both engines have taken every report, as the part always has it at a request (R205). -/
def State.linkReady (s : State) : Bool :=
  s.linkTakes && s.reportsTaken

end Sys2Proof.Machine
end

