-- ==== Sys2Proof/Machine/Ramp.lean ====
section
/-! DEFINITION. The rate law (chapter 2): levels and rates, pulse intervals, the per-pulse update, the ramped stop's descent and
RETUNE's change of a slot. -/

namespace Sys2Proof.Machine

/-- The top level N: the smallest whole number not less than (c - b) / i (R25). -/
def topLevel (base cruise ramp : Nat) : Nat :=
  (cruise - base + (ramp - 1)) / ramp

/-- The snapshot of a profile, with its top level and its ceiling (R24, R25). -/
def Profile.snapshot (p : Profile) : Snapshot where
  base := p.base
  cruise := p.cruise
  ramp := p.ramp
  settle := p.settle
  limitStyle := p.limitStyle
  homeStyle := p.homeStyle
  top := topLevel p.base p.cruise p.ramp
  ceiling := p.cruise

/-- The rate of a level (R25). -/
def Snapshot.rate (p : Snapshot) (level : Nat) : Nat :=
  min (p.base + p.ramp * level) p.ceiling

/-- The interval of a rate in reference periods, rounded to the nearest, half up (R53). -/
def intervalOf (rate : Nat) : Nat :=
  (2 * Config.clockHz + rate) / (2 * rate)

/-- The phases in which a RUNNING move emits pulses (R41). -/
def Phase.pulsing : Phase → Bool
  | .accel | .cruise | .slowing | .decel | .settle => true
  | .none | .wait | .stopping => false

/-- The phases the deceleration test and RETUNE act in (R28, R37). -/
def Phase.retunable : Phase → Bool
  | .accel | .cruise | .slowing => true
  | .none | .decel | .settle | .wait | .stopping => false

/-- The rate in force: that of the level in force (R26). -/
def Slot.rate (sl : Slot) : Nat := sl.snap.rate sl.level

/-- A pulse interval begins at the rate in force (R54). -/
def Slot.beginInterval (sl : Slot) : Slot :=
  { sl with interval := some (intervalOf sl.rate) }

/-- A running interval takes the length of the rate in force (R54). -/
def Slot.rescale (sl : Slot) : Slot :=
  { sl with interval := sl.interval.map (fun _ => intervalOf sl.rate) }

/-- The pulses remaining of a distance move (2.3). -/
def Slot.remaining (sl : Slot) : Option Nat :=
  sl.distance.map (fun d => d - sl.delivered.toNat)

/-- The phase advance after a pulse (R30). -/
def Slot.advance (sl : Slot) : Slot :=
  match sl.phase with
  | .accel => { sl with level := sl.level + 1, phase := if sl.level + 1 = sl.snap.top then .cruise else .accel }
  | .slowing =>
    if sl.level - 1 = sl.snap.top then
      { sl with level := sl.level - 1, phase := .cruise, snap := { sl.snap with ceiling := sl.snap.cruise } }
    else { sl with level := sl.level - 1 }
  | .decel => { sl with level := sl.level - 1, phase := if sl.level - 1 = 0 then .settle else .decel }
  | .cruise | .settle | .none | .wait | .stopping => sl

/-- The deceleration test has applied (R29). -/
def Slot.decelerate (sl : Slot) : Slot :=
  { sl with phase := .decel, level := sl.level - 1 }

/-- What the update after a pulse leaves: the move ends with the pulse, or goes on in this slot. -/
inductive AfterPulse where
  | ends
  | goes (sl : Slot)
  deriving DecidableEq, Repr

/-- The update after a pulse in RUNNING: R28 for a distance move, R31 for a RUN move. -/
def Slot.updateRunning (sl : Slot) : AfterPulse :=
  match sl.remaining with
  | some r =>
    if r = 0 then .ends
    else if sl.phase.retunable ∧ r ≤ sl.level + sl.snap.settle then .goes sl.decelerate
    else .goes sl.advance
  | none => if sl.phase.retunable then .goes sl.advance else .goes sl

/-- The update after a pulse in STOPPING (R34). -/
def Slot.updateStopping (sl : Slot) : AfterPulse :=
  if sl.remaining = some 0 ∨ sl.level = 0 then .ends
  else .goes { sl with level := sl.level - 1 }

/-- A ramped stop taken above level 0 (R33). -/
def Slot.descend (sl : Slot) (p : PendingStop) : Slot :=
  ({ sl with phase := .stopping, level := sl.level - 1, stop := some p }).rescale

/-- The snapshot under a new cruise rate, its ceiling as it was (R37). -/
def Snapshot.withCruise (p : Snapshot) (c : Nat) : Snapshot :=
  { p with cruise := c, top := topLevel p.base c p.ramp }

/-- RETUNE of an ARMED move (R36). -/
def Slot.retuneArmed (sl : Slot) (c : Nat) : Slot :=
  { sl with snap := { sl.snap.withCruise c with ceiling := c } }

/-- RETUNE of a move in ACCEL, CRUISE or SLOWING (R37). -/
def Slot.retuneRunning (sl : Slot) (c : Nat) : Slot :=
  let p := sl.snap.withCruise c
  if sl.level < p.top then ({ sl with snap := { p with ceiling := c }, phase := .accel }).rescale
  else if p.top < sl.level then { sl with snap := p, phase := .slowing }
  else ({ sl with snap := { p with ceiling := c }, phase := .cruise }).rescale

/-- One more pulse is counted, before the marks and the update (R55, step 3). -/
def Slot.countPulse (sl : Slot) : Slot :=
  { sl with delivered := sl.delivered + 1#32, afterCapture := sl.afterCapture.map (· + 1#32) }

end Sys2Proof.Machine
end

