-- ==== Sys2Proof/Machine/Engine.lean ====
section
/-! DEFINITION. The axis engines: endings and what follows them, stops and their merging, starts, pairs, admission, pulses, and the
line reports an engine takes (chapters 3 to 6). -/

namespace Sys2Proof.Machine

/-! ### Ranks of stops (R85, R86) -/

/-- The rank of a stop's cause, higher counts more (R85). -/
def Cause.rank : Cause → Nat
  | .emergency => 4
  | .limit => 3
  | .homeFound => 2
  | .hostStop => 1
  | .none | .homeNotFound | .range | .noStation | .limitActive | .armTimeout | .pairMismatch | .pairBroken | .reset => 0

/-- The higher-ranked of two causes, the pending one when equal (R94). -/
def Cause.merge (pending new : Cause) : Cause :=
  if pending.rank < new.rank then new else pending

/-- The order of after-actions (R86). -/
def AfterAction.rank : AfterAction → Nat
  | .proceed => 0
  | .halt => 1
  | .flush => 2

/-- The stronger of two after-actions (R94). -/
def AfterAction.merge (pending new : AfterAction) : AfterAction :=
  if pending.rank < new.rank then new else pending

/-- A pending stop with a later stop merged into it; the style stays RAMPED while it is pending (R86, R94). -/
def PendingStop.merge (p r : PendingStop) : PendingStop where
  style := p.style
  cause := p.cause.merge r.cause
  after := p.after.merge r.after

/-- The kind of a record whose cause is a stop's (R85, R87). -/
def Cause.stopKind (c : Cause) : RecordKind :=
  if c = .homeFound then .done else .stopped

/-! ### Endings (R65 to R68, R96) -/

/-- The two halves of a 32-bit count, the first the more significant (R138). -/
def halves (w : Word) : Half × Half := (w.extractLsb' 16 16, w.extractLsb' 0 16)

/-- A terminal record's content (R65, R138). -/
def Entry.terminal (x : Axis) (sl : Slot) (position : Word) (kind : RecordKind) (cause : Cause) (halted : Bool) : Entry where
  kind := kind
  axis := some x
  halted := halted
  tag := some sl.move.tag
  cause := cause
  small := 0#8
  pulses := sl.delivered
  position := position
  extra := sl.afterCapture.map halves

/-- A HALT record's content (R108). -/
def Entry.halt (x : Axis) (cause : Cause) (position : Word) : Entry where
  kind := .halt
  axis := some x
  halted := true
  tag := none
  cause := cause
  small := 0#8
  pulses := 0#32
  position := position
  extra := none

/-- The axis moves on after its terminal record (R67, R68, R96). -/
def State.moveOn (s : State) (x : Axis) (after : AfterAction) : State :=
  match after with
  | .proceed =>
    let t := (s.setSlot x none).setAxisState x .idle
    if (s.axis x).queue = [] then t.setEvent (drainedEvent x) else t
  | .halt => ((s.setSlot x none).setAxisState x .halted).setEvent (haltedEvent x)
  | .flush => (((s.setSlot x none).setAxisState x .halted).flushQueue x .hostStop).setEvent (haltedEvent x)

/-- The current move of an axis ends: its reservation becomes the terminal record and the axis moves on, in one happening. -/
def State.endMove (s : State) (x : Axis) (kind : RecordKind) (cause : Cause) (after : AfterAction) : State :=
  match (s.axis x).slot with
  | none => s
  | some sl =>
    (s.convertReservation (Entry.terminal x sl (s.axis x).position kind cause (after != .proceed))).moveOn x after

/-- The current move ends by its stops (R87). -/
def State.endByStop (s : State) (x : Axis) (cause : Cause) (after : AfterAction) : State :=
  s.endMove x cause.stopKind cause after

/-- An axis with no current move enters HALTED: off the wait list if BLOCKED, a HALT record offered, a flush if asked, then the
AXIS_HALTED event (R89, R90, R104, R108, R109). -/
def State.haltWithoutMove (s : State) (x : Axis) (cause : Cause) (flush : Bool) : State :=
  let t := if (s.axis x).state = .blocked then s.leaveWaitList x else s
  let t := (t.setAxisState x .halted).offerRecord (Entry.halt x cause (s.axis x).position)
  let t := if flush then t.flushQueue x .hostStop else t
  t.setEvent (haltedEvent x)

/-! ### Stops (R86 to R96, R100 to R104) -/

/-- The stop pending on a STOPPING move; a slot without one cannot be STOPPING (log 20). -/
def Slot.pendingStop (sl : Slot) : PendingStop :=
  sl.stop.getD ⟨.ramped, .hostStop, .proceed⟩

/-- A stop is taken by the current move of an axis: at once where it is ARMED, in a dwell, at level 0 or the style is IMMEDIATE; by a
descent otherwise; and merged where a descent is under way (R86, R91 to R94). -/
def State.takeStop (s : State) (x : Axis) (r : PendingStop) : State :=
  match (s.axis x).slot with
  | none => s
  | some sl =>
    match (s.axis x).state with
    | .armed => s.endByStop x r.cause r.after
    | .running =>
      if sl.phase.pulsing && (r.style == .ramped && sl.level != 0) then
        (s.setSlot x (some (sl.descend r))).setAxisState x .stopping
      else s.endByStop x r.cause r.after
    | .stopping =>
      let p := sl.pendingStop.merge r
      if r.style = .immediate then s.endByStop x p.cause p.after
      else s.setSlot x (some { sl with stop := some p })
    | .idle | .blocked | .halted => s

/-- STOP AXIS on one axis (R89 to R95). -/
def State.hostStop (s : State) (x : Axis) (style : Style) (after : AfterAction) : State :=
  match (s.axis x).state with
  | .idle | .blocked =>
    if after = .proceed then s else s.haltWithoutMove x .hostStop (after == .flush)
  | .armed | .running | .stopping => s.takeStop x ⟨style, .hostStop, after⟩
  | .halted => if after = .flush then s.flushQueue x .hostStop else s

/-- An engine takes an assertion of the emergency line (R103, R104). -/
def State.emergencyStop (s : State) (x : Axis) : State :=
  match (s.axis x).state with
  | .idle | .blocked => s.haltWithoutMove x .emergency false
  | .armed | .running | .stopping => s.takeStop x ⟨s.settings.emergencyStyle, .emergency, .halt⟩
  | .halted => s

/-- The state and slot form a move that emits pulses: RUNNING in a pulse phase, or STOPPING (R55). -/
def AxisUnit.emitting (u : AxisUnit) : Bool :=
  match u.slot with
  | none => false
  | some sl => (u.state == .running && sl.phase.pulsing) || u.state == .stopping

/-- An engine takes an assertion of a limit line: a LIMIT stop of a move travelling toward it (R99 to R101). A dwell is not acted on: a
bullet of R64 and R99 say that the limit lines have no effect during one, and R64's closing sentence says that a limit ends one; the
model takes the former (DESIGN CHOICE, log 24). -/
def State.limitStop (s : State) (x : Axis) (side : Direction) : State :=
  match (s.axis x).slot with
  | none => s
  | some sl =>
    if (s.axis x).emitting && sl.direction == some side then s.takeStop x ⟨sl.snap.limitStyle, .limit, .halt⟩ else s

/-! ### Home (R61 to R63, R98) -/

/-- A capture: the counter takes the aux value, and pulses after capture is present with 0 (R62). -/
def State.capture (s : State) (x : Axis) (sl : Slot) : State :=
  (s.setSlot x (some { sl with afterCapture := some 0#32 })).setCounter x sl.move.aux

/-- A capture where the record asks for one and the move has none yet (R62). -/
def State.captureOnce (s : State) (x : Axis) (sl : Slot) : State :=
  if sl.move.capture && sl.afterCapture.isNone then s.capture x sl else s

/-- A HOME_FOUND stop taken in STOPPING is merged as to its cause alone (R98). -/
def State.mergeHomeFound (s : State) (x : Axis) : State :=
  match (s.axis x).slot with
  | none => s
  | some sl => s.setSlot x (some { sl with stop := some { sl.pendingStop with cause := sl.pendingStop.cause.merge .homeFound } })

/-- An engine takes an assertion of its home line (R61, R62, R98). -/
def State.homeFound (s : State) (x : Axis) : State :=
  match (s.axis x).slot with
  | none => s
  | some sl =>
    if sl.move.kind = .home ∧ (s.axis x).emitting = true then
      if (s.axis x).state = .stopping then (s.captureOnce x sl).mergeHomeFound x
      else (s.captureOnce x sl).takeStop x ⟨sl.snap.homeStyle, .homeFound, .proceed⟩
    else s

/-! ### Starts (R50 to R52) -/

/-- Which check of R50 decides a start. -/
inductive StartCheck where
  | dwell | zeroDistance | homeFound | limitActive | run
  deriving DecidableEq, Repr

/-- The start checks of R50, in order, against the axis's own lines. -/
def startCheck (lines : Lines) (sl : Slot) : StartCheck :=
  if sl.move.kind = .dwell then .dwell
  else if sl.distance = some 0 then .zeroDistance
  else if sl.move.kind = .home ∧ lines.home = true then .homeFound
  else match sl.direction with
    | some d => if lines.limit d then .limitActive else .run
    | none => .run

/-- The slot of a move that starts to emit pulses (R27, R50 step 5). -/
def Slot.startRamp (sl : Slot) : Slot :=
  ({ sl with phase := if 0 < sl.snap.top then .accel else .cruise, level := 0, armTimer := none }).beginInterval

/-- The slot of a dwell that starts (R64). -/
def Slot.startDwell (sl : Slot) : Slot :=
  { sl with phase := .wait, level := 0, dwell := some sl.move.value.toNat, armTimer := none }

/-- The current move of an axis starts (R50). -/
def State.startMove (s : State) (x : Axis) : State :=
  match (s.axis x).slot with
  | none => s
  | some sl =>
    match startCheck (s.axis x).lines sl with
    | .dwell => (s.setSlot x (some sl.startDwell)).setAxisState x .running
    | .zeroDistance => s.endMove x .done .none .proceed
    | .homeFound => (s.captureOnce x sl).endMove x .done .homeFound .proceed
    | .limitActive => s.endMove x .refused .limitActive .halt
    | .run =>
      s.onAxis x (fun u =>
        { u with state := .running, slot := some sl.startRamp, lastDirection := sl.direction.getD u.lastDirection })

/-! ### Pairs (R74 to R78) -/

/-- The slot of an axis that waits ARMED with a PAIR move. -/
def AxisUnit.pairWaiting (u : AxisUnit) : Option Slot :=
  if u.state = .armed then u.slot.filter (fun sl => sl.move.start == .pair) else none

/-- The second arrival decides the pair, axis A's part before axis B's: a mismatch and a limit refuse both, else both start. -/
def State.decidePair (s : State) (slA slB : Slot) : State :=
  if slA.move.pair ≠ slB.move.pair then
    (s.endMove .A .refused .pairMismatch .halt).endMove .B .refused .pairMismatch .halt
  else if startCheck s.a.lines slA = .limitActive ∨ startCheck s.b.lines slB = .limitActive then
    (s.endMove .A .refused (if startCheck s.a.lines slA = .limitActive then .limitActive else .pairBroken) .halt).endMove .B
      .refused (if startCheck s.b.lines slB = .limitActive then .limitActive else .pairBroken) .halt
  else (s.startMove .A).startMove .B

/-- The arm timer is loaded where the arm limit is above 0 (R80). -/
def State.loadArmTimer (s : State) (x : Axis) (sl : Slot) : State :=
  s.setSlot x (some { sl with armTimer := if s.settings.armLimit = 0#16 then none else some s.settings.armLimit.toNat })

/-- A PAIR move has become ARMED: the second arrival decides, the first waits (R74). -/
def State.arrivePair (s : State) (x : Axis) (sl : Slot) : State :=
  match (s.axis x.other).pairWaiting with
  | none => s.loadArmTimer x sl
  | some other =>
    match x with
    | .A => s.decidePair sl other
    | .B => s.decidePair other sl

/-! ### Admission (R43 to R49) -/

/-- The difference between a target and the position, reduced into the signed range, resolved (R46). -/
def resolveTarget (target position : Word) : Except Cause (Option Direction × Option Nat) :=
  let d := (target - position).toInt
  if 0 ≤ d ∧ d ≤ Config.distanceLimit then .ok (some .plus, some d.toNat)
  else if -(Config.distanceLimit : Int) ≤ d ∧ d < 0 then .ok (some .minus, some (-d).toNat)
  else .error .range

/-- The position a station holds for an axis. -/
def Station.position (st : Station) : Axis → Option Word
  | .A => st.a
  | .B => st.b

/-- The station a number names; the numbers of valid records are 0 to 31 (R2). -/
def State.station (s : State) (n : Nat) : Station :=
  s.stations[n]?.getD Station.empty

/-- Target resolution (R45 to R47). -/
def State.resolve (s : State) (x : Axis) (m : Move) : Except Cause (Option Direction × Option Nat) :=
  match m.kind with
  | .relative | .home => .ok (some m.direction, some m.value.toNat)
  | .run => .ok (some m.direction, none)
  | .dwell => .ok (none, none)
  | .absolute => resolveTarget m.value (s.axis x).position
  | .station =>
    match (s.station m.value.toNat).position x with
    | none => .error .noStation
    | some p => resolveTarget p (s.axis x).position

/-- The slot of a move at its admission (R40, R43). -/
def Slot.admitted (m : Move) (p : Profile) (target : Option Direction × Option Nat) : Slot where
  move := m
  snap := p.snapshot
  direction := target.1
  distance := target.2
  phase := .none
  level := 0
  delivered := 0#32
  afterCapture := none
  dwell := none
  stop := none
  armTimer := none
  interval := none

/-- The head leaves the queue and becomes the current move, ARMED (R14, R43, R49). -/
def State.installMove (s : State) (x : Axis) (rest : List Move) (sl : Slot) : State :=
  s.onAxis x (fun u => { u with queue := rest, slot := some sl, state := .armed })

/-- The granted path of an admission: the reservation, the head, its snapshot, its target and then its start (R43, R48, R49). -/
def State.admitHead (s : State) (x : Axis) : State :=
  match (s.axis x).queue with
  | [] => s
  | m :: rest =>
    match s.resolve x m with
    | .error cause =>
      (s.grantReservation.installMove x rest (Slot.admitted m s.profiles[m.profile] (none, none))).endMove x .refused cause .halt
    | .ok target =>
      let sl := Slot.admitted m s.profiles[m.profile] target
      let t := s.grantReservation.installMove x rest sl
      match m.start with
      | .now => t.startMove x
      | .line => t.loadArmTimer x sl
      | .pair => t.arrivePair x sl

/-- An admission attempt: made only while the axis is IDLE with a nonempty queue; granted or refused by the journal (R42, R43). -/
def State.attemptAdmission (s : State) (x : Axis) : State :=
  if (s.axis x).state = .idle ∧ (s.axis x).queue ≠ [] then
    if s.journal.admits then s.admitHead x else s.joinWaitList x
  else s

/-! ### Pulses (R55) and marks (R118 to R120) -/

/-- A mark's sense matches the pulse's direction (R118). -/
def Sense.matches (sense : Sense) (d : Direction) : Bool :=
  match sense, d with
  | .either, _ => true
  | .up, .plus => true
  | .down, .minus => true
  | .up, .minus => false
  | .down, .plus => false

/-- A mark fires at the position a pulse has just left (R118). -/
def Mark.fires (m : Mark) (position : Word) (d : Direction) : Bool :=
  m.position == position && m.sense.matches d

/-- A MARK record's content (R120, R138). -/
def Entry.mark (x : Axis) (m : Mark) (tag : Half) (pulses : Word) : Entry where
  kind := .mark
  axis := some x
  halted := false
  tag := some tag
  cause := .none
  small := m.id
  pulses := pulses
  position := m.position
  extra := some (tag, 0#16)

/-- The records of the marks that fired are offered one after another (R119). -/
def State.offerMarks (s : State) (x : Axis) (tag : Half) (pulses : Word) : List Mark → State
  | [] => s
  | m :: rest => (s.offerRecord (Entry.mark x m tag pulses)).offerMarks x tag pulses rest

/-- The comparison with the mark table: the marks that fire leave it and their records are offered in ascending id (R118 to R120).
The table is held in ascending id. -/
def State.fireMarks (s : State) (x : Axis) (sl : Slot) (d : Direction) : State :=
  let p := (s.axis x).position
  let table := (s.axis x).marks
  (s.setMarks x (table.filter (fun m => !m.fires p d))).offerMarks x sl.move.tag sl.delivered (table.filter (fun m => m.fires p d))

/-- The counter moves by one in a direction, wrapping (R58). -/
def stepCounter (p : Word) : Direction → Word
  | .plus => p + 1#32
  | .minus => p - 1#32

/-- Steps 1 to 3 of a pulse: the step output's rising edge, the counter, and the pulse counts (R55). -/
def State.stepOut (s : State) (x : Axis) (sl : Slot) (d : Direction) : State :=
  ((s.onAxis x (fun u => { u with stepEdges := u.stepEdges + 1, slot := some sl.countPulse }))).setCounter x
    (stepCounter (s.axis x).position d)

/-- How a move ends whose distance runs out in a RUNNING pulse phase (R66). -/
def State.endByCount (s : State) (x : Axis) (sl : Slot) : State :=
  if sl.move.kind = .home then s.endMove x .stopped .homeNotFound .halt else s.endMove x .done .none .proceed

/-- Step 5 of a pulse: the rate-law update, and the ending it brings or the next interval (R28, R31, R34, R54). -/
def State.afterPulse (s : State) (x : Axis) (sl : Slot) : State :=
  if (s.axis x).state = .stopping then
    match sl.updateStopping with
    | .ends => s.endByStop x sl.pendingStop.cause sl.pendingStop.after
    | .goes sl' => s.setSlot x (some sl'.beginInterval)
  else
    match sl.updateRunning with
    | .ends => s.endByCount x sl
    | .goes sl' => s.setSlot x (some sl'.beginInterval)

/-- One pulse of an axis: its five steps, or nothing where the axis emits no pulses (R55). -/
def State.emitPulse (s : State) (x : Axis) : State :=
  match (s.axis x).slot with
  | none => s
  | some sl =>
    if (s.axis x).emitting then
      match sl.direction with
      | none => s
      | some d => ((s.stepOut x sl d).fireMarks x sl.countPulse d).afterPulse x sl.countPulse
    else s

/-! ### Timers (R64, R81) -/

/-- The dwell time of an axis runs out (R64). -/
def State.dwellEnds (s : State) (x : Axis) : State :=
  match (s.axis x).slot with
  | none => s
  | some sl =>
    if (s.axis x).state = .running ∧ sl.phase = .wait then s.endMove x .done .none .proceed else s

/-- The arm timer of an axis runs out (R81). -/
def State.armEnds (s : State) (x : Axis) : State :=
  match (s.axis x).slot with
  | none => s
  | some sl =>
    if (s.axis x).state = .armed ∧ sl.armTimer.isSome = true then s.endMove x .refused .armTimeout .halt else s

/-! ### Reports of the shared lines (R72, R205) -/

/-- An engine takes a falling edge of the sync line (R72). -/
def State.syncEdge (s : State) (x : Axis) : State :=
  match (s.axis x).slot with
  | none => s
  | some sl => if (s.axis x).state = .armed ∧ sl.move.start = .line then s.startMove x else s

/-- An engine takes the reported level of the emergency line: an assertion acts, a release and an unchanged level do not (R103 to
R105). -/
def State.takeEmergency (s : State) (x : Axis) (v : Bool) : State :=
  let t := s.setLines x { (s.axis x).lines with emergency := v }
  if v && !(s.axis x).lines.emergency then t.emergencyStop x else t

/-- An engine takes the reported level of the sync line: a fall from high acts, a rise and an unchanged level do not (R72, R73). -/
def State.takeSync (s : State) (x : Axis) (v : Bool) : State :=
  let t := s.setLines x { (s.axis x).lines with syncHigh := v }
  if !v && (s.axis x).lines.syncHigh then t.syncEdge x else t

/-- An engine takes one report of a shared line (R205). -/
def State.takeReport (s : State) (x : Axis) : Report → State
  | .emergency v => s.takeEmergency x v
  | .sync h => s.takeSync x h

/-- An engine takes the oldest outstanding report of a report's line, if there is one, and leaves the others outstanding. -/
def State.takeLine (s : State) (x : Axis) (r : Report) : State :=
  match r.oldest (s.axis x).reports with
  | none => s
  | some (q, rest) => (s.setReports x rest).takeReport x q

/-- An engine takes a number of the outstanding reports of a line, oldest first. -/
def State.takeLines (s : State) (x : Axis) (r : Report) : Nat → State
  | 0 => s
  | n + 1 => (s.takeLine x r).takeLines x r n

/-- An engine takes the outstanding reports of a line up to and including one (R205). -/
def State.takeThrough (s : State) (x : Axis) (r : Report) : State :=
  s.takeLines x r (r.place (s.axis x).reports)

/-- An engine takes the oldest report outstanding to it, if there is one. -/
def State.takeFront (s : State) (x : Axis) : State :=
  match (s.axis x).reports with
  | [] => s
  | r :: rest => (s.setReports x rest).takeReport x r

/-- An engine takes a number of its outstanding reports, oldest first. -/
def State.takeFronts (s : State) (x : Axis) : Nat → State
  | 0 => s
  | n + 1 => (s.takeFront x).takeFronts x n

/-- An engine takes every report outstanding to it, oldest first. -/
def State.takeOutstanding (s : State) (x : Axis) : State :=
  s.takeFronts x (s.axis x).reports.length

/-- Before the link takes a request, each engine takes every report it has not yet taken (R205). That axis A's engine takes all of its
reports before axis B's is the model's choice (log 7). -/
def State.takeReports (s : State) : State :=
  (s.takeOutstanding .A).takeOutstanding .B

/-- A request reaches its owner when chip-select rises (R179, R181): outside a live link only chip-select changes; otherwise the
frame and its filler stand in the receiver, the owner takes the request whole, and its answer fills the reply slot. No owner reads the
link. -/
def State.takeRequest (s : State) (kind : RequestKind) (payload filler : List Byte) (owner : State → Answer) : State :=
  if s.linkTakes then
    let r := owner s.takeReports
    r.state.withLink (s.link.replied (requestFrame kind.code payload ++ filler) ⟨r.status, kind.code, r.payload⟩)
  else s.chipSelectHigh

end Sys2Proof.Machine
end

