-- ==== Sys2Proof/Machine/Recovery.lean ====
section
/-! DEFINITION. Resets (chapter 9): what a warm reset stops, the retained check, cold initialisation, warm recovery, and the journal's
RESTART record. -/

namespace Sys2Proof.Machine

/-! ### RESTART records (R149, R150) -/

/-- A count with another added, saturating (R150). -/
def saturate16 (a : Half) (n : Nat) : Half :=
  BitVec.ofNat 16 (min (a.toNat + n) Config.countLimit)

/-- A RESTART record with a later restart merged into it (R150). -/
def Entry.mergeRestart (e : Entry) (kind : RestartKind) (discardA discardB : Nat) : Entry :=
  { e with
    small := kind.code
    pulses := if e.pulses = BitVec.allOnes 32 then e.pulses else e.pulses + 1#32
    extra := some (saturate16 (e.extra.getD (0#16, 0#16)).1 discardA, saturate16 (e.extra.getD (0#16, 0#16)).2 discardB) }

/-- The newest record changed by a merge, its number and place as they were (R150). -/
def mergeNewest (kind : RestartKind) (discardA discardB : Nat) : List Record → List Record
  | [] => []
  | [r] => [{ r with entry := r.entry.mergeRestart kind discardA discardB }]
  | r :: r' :: rest => r :: mergeNewest kind discardA discardB (r' :: rest)

/-- The RESTART record of a warm recovery is placed: appended below 128 held, merged into the newest at 128 (R149). -/
def State.placeRestart (s : State) (kind : RestartKind) (discardA discardB : Nat) : State :=
  if s.journal.records.length < Config.journalCapacity then
    s.writeRecord (Entry.restart kind (BitVec.ofNat 16 discardA) (BitVec.ofNat 16 discardB))
  else s.setJournal { s.journal with records := mergeNewest kind discardA discardB s.journal.records }

/-! ### Axes and link at recovery -/

/-- An axis at the end of a reset, given the lines as they stand and the value of its counter (R39, R69, R70, R113). -/
def AxisUnit.recovered (u : AxisUnit) (lines : Lines) (position : Word) : AxisUnit where
  state := if lines.emergency then .halted else .idle
  slot := none
  position := position
  lastDirection := .plus
  queue := []
  marks := []
  lines := lines
  reports := []
  stepEdges := u.stepEdges

/-- The link at the end of a reset: an empty receiver, the reset reply, and a transaction already under way ignored (R174, R184). -/
def Link.recovered (l : Link) (reply : Reply) : Link where
  chipSelect := if l.chipSelect = .high then .high else .ignored
  receiver := Receiver.empty
  slot := reply
  shifted := none

/-- The volatile parts of a recovery after the journal: lines, axes, settings, events and link (R168 steps 7 to 9, R169 steps 4 to 9). -/
def State.recoverVolatile (s : State) (positionA positionB : Word) (reply : Reply) : State :=
  { s with
    power := .running
    resetLow := false
    a := s.a.recovered (s.pins.lines .A) positionA
    b := s.b.recovered (s.pins.lines .B) positionB
    settings := Settings.default
    events := Event.restart.mask
    link := s.link.recovered reply }

/-! ### Cold initialisation (R168) -/

/-- Cold initialisation with its restart kind; the check code is computed over the initialised set (R151, R168). -/
def State.coldInit (s : State) (kind : RestartKind) : State :=
  ({ s.recoverVolatile 0#32 0#32 Reply.restarted with
      journal := Journal.cold kind
      stations := Vector.replicate 32 Station.empty
      profiles := Vector.replicate 8 Profile.cold
      coldFlag := true }).seal

/-! ### Warm recovery (R169) -/

/-- The current move of an axis is interrupted: its reservation becomes an INTERRUPTED record and the slot is emptied (R170). -/
def State.interruptMove (s : State) (x : Axis) : State :=
  match (s.axis x).slot with
  | none => s
  | some sl => (s.convertReservation (Entry.terminal x sl (s.axis x).position .interrupted .reset false)).setSlot x none

/-- The wait list is emptied; reserved stands at 0 once every move is interrupted (R133, R169 step 5). -/
def State.clearClaims (s : State) : State :=
  { s with journal := { s.journal with reserved := 0, waitList := [] } }

/-- Warm recovery with its restart kind and the link's reset reply (R169). -/
def State.warmRecover (s : State) (kind : RestartKind) (reply : Reply) : State :=
  let t := ((s.interruptMove .A).interruptMove .B).placeRestart kind s.a.queue.length s.b.queue.length
  t.clearClaims.recoverVolatile t.a.position t.b.position reply

/-! ### The moments of a reset -/

/-- An axis when a reset takes effect: the interval in progress is abandoned, all else is kept as it stands (R70, R162). -/
def AxisUnit.stopPulses (u : AxisUnit) : AxisUnit :=
  { u with slot := u.slot.map (fun sl => { sl with interval := none }) }

/-- A transaction in progress is discarded when a reset takes effect (R162, R184). -/
def Link.discard (l : Link) : Link :=
  { l with chipSelect := if l.chipSelect = .high then .high else .ignored, shifted := none }

/-- A pin reset takes effect (R162). -/
def State.pinResetTakesEffect (s : State) : State :=
  { s with power := .heldPin, resetLow := true, a := s.a.stopPulses, b := s.b.stopPulses, link := s.link.discard }

/-- The retained check, then warm recovery or cold initialisation (R167); passes is the outcome of the check. -/
def State.recoverWarmReset (s : State) (passes : Bool) (kind : RestartKind) (reply : Reply) : State :=
  if passes then s.warmRecover kind reply else s.coldInit .retainFault

end Sys2Proof.Machine
end

