-- ==== Sys2Proof/Machine/LinkRequests.lean ====
section
/-! DEFINITION. The link's own commands: NOP, GET_STATUS, the settings, rejected frames, and the fall of chip-select (chapter 10). -/

namespace Sys2Proof.Machine

/-- NOP: OK, nothing changes (R191). -/
def nopOwner (s : State) : Answer := ⟨.ok, [], s⟩

/-- NOP. -/
def execNop (s : State) (filler : List Byte := []) : Host.Outcome State Fault Refusal :=
  .next (s.takeRequest .nop [] filler nopOwner)

/-- The level GET STATUS reports: 0 unless the axis emits pulses (R26, R189). -/
def AxisUnit.reportedLevel (u : AxisUnit) : Nat :=
  match u.slot with
  | none => 0
  | some sl => if u.emitting then sl.level else 0

/-- The rate GET STATUS reports: 0 unless the axis emits pulses (R26, R189). -/
def AxisUnit.reportedRate (u : AxisUnit) : Nat :=
  match u.slot with
  | none => 0
  | some sl => if u.emitting then sl.rate else 0

/-- The phase of an axis, NONE without a current move (R26). -/
def AxisUnit.phase (u : AxisUnit) : Phase :=
  match u.slot with
  | none => .none
  | some sl => sl.phase

/-- The tag of the current move, absent without one (R40). -/
def AxisUnit.tag (u : AxisUnit) : Option Half :=
  u.slot.map (fun sl => sl.move.tag)

/-- The 16 bytes of GET STATUS that describe one axis (12.5). -/
def State.axisStatus (s : State) (x : Axis) : List Byte :=
  let u := s.axis x
  [u.state.code, u.phase.code] ++ bytes3 u.reportedLevel ++ bytes3 u.reportedRate ++ bytes4 u.position ++
    bytes2 (u.tag.getD 0#16) ++
    [bitOf 7 u.tag.isNone ||| bitOf 6 (s.journal.waitList.contains x), byteOf u.queue.length]

/-- The line levels of GET STATUS (12.5). -/
def State.lineByte (s : State) : Byte :=
  bitOf 7 s.a.lines.limitPlus ||| bitOf 6 s.a.lines.limitMinus ||| bitOf 5 s.b.lines.limitPlus ||| bitOf 4 s.b.lines.limitMinus |||
    bitOf 3 s.a.lines.home ||| bitOf 2 s.b.lines.home ||| bitOf 1 s.pins.emergency ||| bitOf 0 s.pins.syncHigh

/-- The 42 bytes of a GET STATUS reply (R189, 12.5). -/
def State.statusBytes (s : State) : List Byte :=
  s.axisStatus .A ++ s.axisStatus .B ++
    [byteOf s.journal.records.length, byteOf s.journal.reserved] ++ bytes2 s.journal.oldest ++ bytes2 s.journal.newest ++
    bytes2 (BitVec.ofNat 16 s.journal.lost) ++ [bitOf 0 s.coldFlag, s.lineByte]

/-- GET STATUS: OK in every state, nothing changes (R189). -/
def getStatusOwner (s : State) : Answer := ⟨.ok, s.statusBytes, s⟩

/-- GET_STATUS. -/
def execGetStatus (s : State) (filler : List Byte := []) : Host.Outcome State Fault Refusal :=
  .next (s.takeRequest .getStatus [] filler getStatusOwner)

/-- GET SETTINGS: the eight fields as they stand (R188). -/
def getSettingsOwner (s : State) : Answer := ⟨.ok, settingsBytes s.settings.raw, s⟩

/-- GET_SETTINGS. -/
def execGetSettings (s : State) (filler : List Byte := []) : Host.Outcome State Fault Refusal :=
  .next (s.takeRequest .getSettings [] filler getSettingsOwner)

/-- Check 7 of R186: a polarity would change on an axis with a current move. -/
def State.polarityBusy (s : State) (c : Settings) : Bool :=
  (c.polarityA != s.settings.polarityA && s.a.slot.isSome) || (c.polarityB != s.settings.polarityB && s.b.slot.isSome)

/-- SET SETTINGS: all eight fields replaced at once, or none (R186, R187). -/
def setSettingsOwner (r : RawSettings) (s : State) : Answer :=
  match checkSettings r with
  | .error f => ⟨.invalid, f.code :: settingsBytes s.settings.raw, s⟩
  | .ok c =>
    if s.polarityBusy c then ⟨.busy, FieldCode.none.code :: settingsBytes s.settings.raw, s⟩
    else ⟨.ok, FieldCode.none.code :: settingsBytes c.raw, { s with settings := c }⟩

/-- SET_SETTINGS. -/
def execSetSettings (r : RawSettings) (s : State) (filler : List Byte := []) : Host.Outcome State Fault Refusal :=
  .next (s.takeRequest .setSettings (settingsBytes r) filler (setSettingsOwner r))

/-- A frame fails a check: the failing status with the received kind byte and no payload, and LINK_ERROR (R180). -/
def State.rejectFrame (s : State) (e : LinkError) (bytes : List Byte) : State :=
  (s.withLink (s.link.replied bytes ⟨statusOfLinkError e, bytes.headD 0#8, []⟩)).setEvent .linkError

/-- FRAME_REJECTED: a transaction of no byte leaves the reply slot and sets no event (R175); bytes that pass every check are a request and
not this event (log 11). A rejected frame is no request, so reports outstanding stay so (R205, log 7). -/
def execFrameRejected (bytes : List Byte) (s : State) : Host.Outcome State Fault Refusal :=
  if s.linkTakes then
    if bytes = [] then .next (s.withLink (s.link.replied [] s.link.slot))
    else match linkCheck (bytes.take Config.frameBytes) with
      | some e => .next (s.rejectFrame e bytes)
      | none => .refused .frameNotRejected
  else .next s.chipSelectHigh

/-- CHIP_SELECT_FALL: a live link begins a transaction; a link held by a reset or without supply will ignore it whole (R163, R164,
R175, R184). -/
def execChipSelectFall (s : State) : Host.Outcome State Fault Refusal :=
  if s.live then .next (s.withLink s.link.begin)
  else .next (s.withLink { s.link with chipSelect := .ignored })

end Sys2Proof.Machine
end

