-- ==== Sys2Proof/Machine/QueueRequests.lean ====
section
/-! DEFINITION. The move queues' commands: QUEUE_MOVES and FLUSH_QUEUE (chapter 1). -/

namespace Sys2Proof.Machine

/-- The reply of QUEUE MOVES: record index, field code and queue count (R9). -/
def queueReply (index : Nat) (f : FieldCode) (count : Nat) : List Byte :=
  [byteOf index, f.code, byteOf count]

/-- QUEUE MOVES: selector, records, room, append (R9 to R12). -/
def queueMovesOwner (selector : Byte) (moves : List RawMove) (s : State) : Answer :=
  match axisOfSelector selector with
  | none => ⟨.invalid, queueReply 0 .axis 0, s⟩
  | some x =>
    let q := (s.axis x).queue
    match checkMoves 1 moves with
    | .error (i, f) => ⟨.invalid, queueReply i f q.length, s⟩
    | .ok ms =>
      if Config.queueCapacity < q.length + ms.length then ⟨.full, queueReply 0 .none q.length, s⟩
      else ⟨.ok, queueReply 0 .none (q.length + ms.length), s.setQueue x (q ++ ms)⟩

/-- The link's check of a QUEUE MOVES with another number of records than 1 to 4: a length byte above 64 is FRAME_ERROR, any other
wrong length LENGTH_ERROR (R180, R192). -/
def queueMovesLinkError (n : Nat) : LinkError :=
  if Config.payloadLimit < 1 + 13 * n then .frameError else .lengthError

/-- QUEUE_MOVES. A number of records that no QUEUE MOVES frame carries is refused by the link (log 18). -/
def execQueueMoves (selector : Byte) (moves : List RawMove) (s : State) (filler : List Byte := []) : Host.Outcome State Fault Refusal :=
  let payload := selector :: moves.flatMap moveBytes
  if 1 ≤ moves.length ∧ moves.length ≤ 4 then
    .next (s.takeRequest .queueMoves payload filler (queueMovesOwner selector moves))
  else if s.linkTakes then
    .next (s.rejectFrame (queueMovesLinkError moves.length) (requestFrame RequestKind.queueMoves.code payload ++ filler))
  else .next s.chipSelectHigh

/-- The records a flush removes from an axis, 0 for an axis not named (R16). -/
def State.flushCount (s : State) (x : Axis) (named : Bool) : Nat :=
  if named then (s.axis x).queue.length else 0

/-- FLUSH QUEUE: the named queues, A's first (R16 to R18). -/
def flushQueueOwner (selector : Byte) (s : State) : Answer :=
  match axesOfSelector selector with
  | none => ⟨.invalid, [FieldCode.axis.code, 0#8, 0#8], s⟩
  | some (na, nb) =>
    let t := if na then s.flushQueue .A .none else s
    let t := if nb then t.flushQueue .B .none else t
    ⟨.ok, [FieldCode.none.code, byteOf (s.flushCount .A na), byteOf (s.flushCount .B nb)], t⟩

/-- FLUSH_QUEUE. -/
def execFlushQueue (selector : Byte) (s : State) (filler : List Byte := []) : Host.Outcome State Fault Refusal :=
  .next (s.takeRequest .flushQueue [selector] filler (flushQueueOwner selector))

end Sys2Proof.Machine
end

