-- ==== Sys2Proof/Machine/AxisRequests.lean ====
section
/-! DEFINITION. The axis engines' requests: STOP_AXIS, RESUME_AXIS, RETUNE and SET_POSITION (chapters 2, 3 and 5). -/

namespace Sys2Proof.Machine

/-- The reply of STOP AXIS and RESUME AXIS: field code and the states of A and B after the request (R88, R110). -/
def State.statesReply (s : State) (f : FieldCode) : List Byte :=
  [f.code, s.a.state.code, s.b.state.code]

/-- STOP AXIS: selector, style and after-action checked, then the stop on each named axis, A's first (R88). -/
def stopAxisOwner (selector style after : Byte) (s : State) : Answer :=
  match axesOfSelector selector with
  | none => ⟨.invalid, s.statesReply .axis, s⟩
  | some (na, nb) =>
    match styleOfCode style with
    | none => ⟨.invalid, s.statesReply .style, s⟩
    | some st =>
      match afterOfCode after with
      | none => ⟨.invalid, s.statesReply .afterAction, s⟩
      | some aa =>
        let t := if na then s.hostStop .A st aa else s
        let t := if nb then t.hostStop .B st aa else t
        ⟨.ok, t.statesReply .none, t⟩

/-- STOP_AXIS. -/
def execStopAxis (selector style after : Byte) (s : State) (filler : List Byte := []) : Host.Outcome State Fault Refusal :=
  .next (s.takeRequest .stopAxis [selector, style, after] filler (stopAxisOwner selector style after))

/-- RESUME AXIS: refused under the emergency line or where a named axis is not HALTED; else each named axis is IDLE (R110). -/
def resumeAxisOwner (selector : Byte) (s : State) : Answer :=
  match axesOfSelector selector with
  | none => ⟨.invalid, s.statesReply .axis, s⟩
  | some (na, nb) =>
    if s.pins.emergency then ⟨.emergency, s.statesReply .none, s⟩
    else if (na && s.a.state != .halted) || (nb && s.b.state != .halted) then ⟨.busy, s.statesReply .none, s⟩
    else
      let t := if na then s.setAxisState .A .idle else s
      let t := if nb then t.setAxisState .B .idle else t
      ⟨.ok, t.statesReply .none, t⟩

/-- RESUME_AXIS. -/
def execResumeAxis (selector : Byte) (s : State) (filler : List Byte := []) : Host.Outcome State Fault Refusal :=
  .next (s.takeRequest .resumeAxis [selector] filler (resumeAxisOwner selector))

/-- The reply of RETUNE: field code, axis state, then phase, level, top level and ceiling of the current move (R35). -/
def AxisUnit.retuneReply (u : AxisUnit) (f : FieldCode) : List Byte :=
  match u.slot with
  | none => [f.code, u.state.code, Phase.none.code] ++ bytes3 0 ++ bytes3 0 ++ bytes3 0
  | some sl => [f.code, u.state.code, sl.phase.code] ++ bytes3 sl.level ++ bytes3 sl.snap.top ++ bytes3 sl.snap.ceiling

/-- The slot a RETUNE leaves, none where the axis is BUSY (R35 to R37). -/
def AxisUnit.retuned (u : AxisUnit) (rate : Nat) : Option (Slot × Slot) :=
  match u.slot with
  | none => none
  | some sl =>
    match u.state with
    | .armed => some (sl, sl.retuneArmed rate)
    | .running => if sl.phase.retunable then some (sl, sl.retuneRunning rate) else none
    | .idle | .blocked | .stopping | .halted => none

/-- RETUNE: its four checks, then the changed slot (R35 to R37). A bad selector reaches no axis and reports 0 for each item. -/
def retuneOwner (selector : Byte) (rate : Word) (s : State) : Answer :=
  match axisOfSelector selector with
  | none => ⟨.invalid, FieldCode.axis.code :: List.replicate 11 0#8, s⟩
  | some x =>
    if rate.toNat = 0 ∨ Config.rateLimit < rate.toNat then ⟨.invalid, (s.axis x).retuneReply .cruise, s⟩
    else match (s.axis x).retuned rate.toNat with
      | none => ⟨.busy, (s.axis x).retuneReply .none, s⟩
      | some (sl, sl') =>
        if rate.toNat < sl.snap.base then ⟨.invalid, (s.axis x).retuneReply .cruise, s⟩
        else
          let t := s.setSlot x (some sl')
          ⟨.ok, (t.axis x).retuneReply .none, t⟩

/-- RETUNE. -/
def execRetune (selector : Byte) (rate : Word) (s : State) (filler : List Byte := []) : Host.Outcome State Fault Refusal :=
  .next (s.takeRequest .retune (selector :: bytes4 rate) filler (retuneOwner selector rate))

/-- The axis has a current move: ARMED, RUNNING or STOPPING (R39). -/
def AxisState.holdsMove : AxisState → Bool
  | .armed | .running | .stopping => true
  | .idle | .blocked | .halted => false

/-- The reply of SET POSITION: field code, axis state and position counter after the request (R59). -/
def AxisUnit.positionReply (u : AxisUnit) (f : FieldCode) : List Byte :=
  [f.code, u.state.code] ++ bytes4 u.position

/-- SET POSITION: BUSY while the axis has a current move; else the counter takes the value (R59). -/
def setPositionOwner (selector : Byte) (value : Word) (s : State) : Answer :=
  match axisOfSelector selector with
  | none => ⟨.invalid, FieldCode.axis.code :: List.replicate 5 0#8, s⟩
  | some x =>
    if (s.axis x).state.holdsMove then ⟨.busy, (s.axis x).positionReply .none, s⟩
    else
      let t := s.setCounter x value
      ⟨.ok, (t.axis x).positionReply .none, t⟩

/-- SET_POSITION. -/
def execSetPosition (selector : Byte) (value : Word) (s : State) (filler : List Byte := []) : Host.Outcome State Fault Refusal :=
  .next (s.takeRequest .setPosition (selector :: bytes4 value) filler (setPositionOwner selector value))

end Sys2Proof.Machine
end

