-- ==== Sys2Proof/Machine/TableRequests.lean ====
section
/-! DEFINITION. The requests on the profile table (chapter 2) and the station table (chapter 7). -/

namespace Sys2Proof.Machine

/-! ### Profiles -/

/-- A profile is replaced whole, and the check code with it (R21, R22). -/
def State.setProfile (s : State) (i : Fin 8) (p : Profile) : State :=
  ({ s with profiles := s.profiles.set i p }).seal

/-- WRITE PROFILE (R22). The index of a refused request is not reached and is sent as 0 (log 10). -/
def writeProfileOwner (index : Byte) (r : RawProfile) (s : State) : Answer :=
  match checkProfile index r with
  | .error f => ⟨.invalid, [f.code, 0#8] ++ bytes3 0, s⟩
  | .ok (i, p) => ⟨.ok, [FieldCode.none.code, index] ++ bytes3 p.snapshot.top, s.setProfile i p⟩

/-- WRITE_PROFILE. -/
def execWriteProfile (index : Byte) (r : RawProfile) (s : State) (filler : List Byte := []) : Host.Outcome State Fault Refusal :=
  .next (s.takeRequest .writeProfile (index :: profileBytes r) filler (writeProfileOwner index r))

/-- READ PROFILE (R23): the table entry and its top level; refused, the index as received and zeros (12.5). -/
def readProfileOwner (index : Byte) (s : State) : Answer :=
  if hi : index.toNat < 8 then
    let p := s.profiles[index.toNat]
    ⟨.ok, [FieldCode.none.code, index] ++ profileBytes p.raw ++ bytes3 p.snapshot.top, s⟩
  else ⟨.invalid, [FieldCode.index.code, index] ++ List.replicate 14 0#8 ++ bytes3 0, s⟩

/-- READ_PROFILE. -/
def execReadProfile (index : Byte) (s : State) (filler : List Byte := []) : Host.Outcome State Fault Refusal :=
  .next (s.takeRequest .readProfile [index] filler (readProfileOwner index))

/-! ### Stations -/

/-- A station is replaced, and the check code with it (R124). -/
def State.setStation (s : State) (n : Fin 32) (st : Station) : State :=
  ({ s with stations := s.stations.set n st }).seal

/-- The station a byte numbers, none above 31 (R123). -/
def stationOf (b : Byte) : Option (Fin 32) :=
  if h : b.toNat < 32 then some ⟨b.toNat, h⟩ else none

/-- The reply of the four station requests: field code, number, and both positions with their presence (12.5). -/
def stationReply (f : FieldCode) (number : Byte) (st : Station) : List Byte :=
  [f.code, number] ++ positionBytes st.a ++ positionBytes st.b

/-- What STATION STORE does with one position (R125). -/
def Presence.store (p : Presence) (held : Option Word) (value : Word) : Option Word :=
  match p with
  | .present => some value
  | .absent => none
  | .leave => held

/-- The value a presence admits (R125). -/
def Presence.admits (p : Presence) (value : Word) : Bool :=
  p == .present || value == 0#32

/-- STATION STORE: checks in order, then both positions together (R125). -/
def stationStoreOwner (number presenceA : Byte) (valueA : Word) (presenceB : Byte) (valueB : Word) (s : State) : Answer :=
  match stationOf number with
  | none => ⟨.invalid, stationReply .station number Station.empty, s⟩
  | some n =>
    let held := s.stations[n]
    match presenceOfCode presenceA with
    | none => ⟨.invalid, stationReply .presenceA number held, s⟩
    | some pa =>
      if !pa.admits valueA then ⟨.invalid, stationReply .valueA number held, s⟩
      else match presenceOfCode presenceB with
        | none => ⟨.invalid, stationReply .presenceB number held, s⟩
        | some pb =>
          if !pb.admits valueB then ⟨.invalid, stationReply .valueB number held, s⟩
          else
            let st : Station := ⟨pa.store held.a valueA, pb.store held.b valueB⟩
            ⟨.ok, stationReply .none number st, s.setStation n st⟩

/-- STATION_STORE. -/
def execStationStore (number presenceA : Byte) (valueA : Word) (presenceB : Byte) (valueB : Word) (s : State) (filler : List Byte := []) :
    Host.Outcome State Fault Refusal :=
  .next (s.takeRequest .stationStore ([number, presenceA] ++ bytes4 valueA ++ [presenceB] ++ bytes4 valueB) filler
    (stationStoreOwner number presenceA valueA presenceB valueB))

/-- A station with the counters of the named axes taught, both read in the same happening (R126). -/
def State.taught (s : State) (held : Station) (na nb : Bool) : Station where
  a := if na then some s.a.position else held.a
  b := if nb then some s.b.position else held.b

/-- STATION TEACH (R126). -/
def stationTeachOwner (number axisSet : Byte) (s : State) : Answer :=
  match stationOf number with
  | none => ⟨.invalid, stationReply .station number Station.empty, s⟩
  | some n =>
    let held := s.stations[n]
    match axesOfSelector axisSet with
    | none => ⟨.invalid, stationReply .axis number held, s⟩
    | some (na, nb) =>
      let st := s.taught held na nb
      ⟨.ok, stationReply .none number st, s.setStation n st⟩

/-- STATION_TEACH. -/
def execStationTeach (number axisSet : Byte) (s : State) (filler : List Byte := []) : Host.Outcome State Fault Refusal :=
  .next (s.takeRequest .stationTeach [number, axisSet] filler (stationTeachOwner number axisSet))

/-- STATION READ (R129). The station byte of a refused one is the number as received, and its positions are absent: the model's reading
(log 10). -/
def stationReadOwner (number : Byte) (s : State) : Answer :=
  match stationOf number with
  | none => ⟨.invalid, stationReply .station number Station.empty, s⟩
  | some n => ⟨.ok, stationReply .none number s.stations[n], s⟩

/-- STATION_READ. -/
def execStationRead (number : Byte) (s : State) (filler : List Byte := []) : Host.Outcome State Fault Refusal :=
  .next (s.takeRequest .stationRead [number] filler (stationReadOwner number))

/-- A station with the named positions absent (R128). -/
def Station.cleared (held : Station) (na nb : Bool) : Station where
  a := if na then none else held.a
  b := if nb then none else held.b

/-- STATION CLEAR (R128). -/
def stationClearOwner (number axisSet : Byte) (s : State) : Answer :=
  match stationOf number with
  | none => ⟨.invalid, stationReply .station number Station.empty, s⟩
  | some n =>
    let held := s.stations[n]
    match axesOfSelector axisSet with
    | none => ⟨.invalid, stationReply .axis number held, s⟩
    | some (na, nb) =>
      let st := held.cleared na nb
      ⟨.ok, stationReply .none number st, s.setStation n st⟩

/-- STATION_CLEAR. -/
def execStationClear (number axisSet : Byte) (s : State) (filler : List Byte := []) : Host.Outcome State Fault Refusal :=
  .next (s.takeRequest .stationClear [number, axisSet] filler (stationClearOwner number axisSet))

end Sys2Proof.Machine
end

