-- ==== Sys2Proof/Machine/MarkRequests.lean ====
section
/-! DEFINITION. The requests on the mark tables (chapter 6). A table is held in ascending id. -/

namespace Sys2Proof.Machine

/-- The held mark with an id. -/
def findMark (id : Byte) (ms : List Mark) : Option Mark :=
  ms.find? (fun m => m.id == id)

/-- A mark placed among marks in ascending id. -/
def insertMark (m : Mark) : List Mark → List Mark
  | [] => [m]
  | h :: rest => if m.id < h.id then m :: h :: rest else h :: insertMark m rest

/-- MARK ADD: selector, id, sense, duplicate, room (R114). -/
def markAddOwner (selector id : Byte) (position : Word) (sense : Byte) (s : State) : Answer :=
  match axisOfSelector selector with
  | none => ⟨.invalid, [FieldCode.axis.code, 0#8], s⟩
  | some x =>
    let ms := (s.axis x).marks
    if id = 0#8 then ⟨.invalid, [FieldCode.id.code, byteOf ms.length], s⟩
    else match senseOfCode sense with
      | none => ⟨.invalid, [FieldCode.sense.code, byteOf ms.length], s⟩
      | some se =>
        if (findMark id ms).isSome then ⟨.duplicate, [FieldCode.none.code, byteOf ms.length], s⟩
        else if Config.markCapacity ≤ ms.length then ⟨.full, [FieldCode.none.code, byteOf ms.length], s⟩
        else ⟨.ok, [FieldCode.none.code, byteOf (ms.length + 1)], s.setMarks x (insertMark ⟨id, position, se⟩ ms)⟩

/-- MARK_ADD. -/
def execMarkAdd (selector id : Byte) (position : Word) (sense : Byte) (s : State) (filler : List Byte := []) : Host.Outcome State Fault Refusal :=
  .next (s.takeRequest .markAdd ([selector, id] ++ bytes4 position ++ [sense]) filler (markAddOwner selector id position sense))

/-- The reply of MARK REMOVE: field code, marks held, and the mark removed (R115). -/
def markRemoveReply (f : FieldCode) (held : Nat) : Option Mark → List Byte
  | none => [f.code, byteOf held] ++ bytes4 0#32 ++ [0#8]
  | some m => [f.code, byteOf held] ++ bytes4 m.position ++ [m.sense.code]

/-- MARK REMOVE: selector, id, held (R115). -/
def markRemoveOwner (selector id : Byte) (s : State) : Answer :=
  match axisOfSelector selector with
  | none => ⟨.invalid, markRemoveReply .axis 0 none, s⟩
  | some x =>
    let ms := (s.axis x).marks
    if id = 0#8 then ⟨.invalid, markRemoveReply .id ms.length none, s⟩
    else match findMark id ms with
      | none => ⟨.notFound, markRemoveReply .none ms.length none, s⟩
      | some m =>
        let rest := ms.filter (fun k => k.id != id)
        ⟨.ok, markRemoveReply .none rest.length (some m), s.setMarks x rest⟩

/-- MARK_REMOVE. -/
def execMarkRemove (selector id : Byte) (s : State) (filler : List Byte := []) : Host.Outcome State Fault Refusal :=
  .next (s.takeRequest .markRemove [selector, id] filler (markRemoveOwner selector id))

/-- MARK LIST: the marks held, in ascending id (R116). -/
def markListOwner (selector : Byte) (s : State) : Answer :=
  match axisOfSelector selector with
  | none => ⟨.invalid, [FieldCode.axis.code, 0#8], s⟩
  | some x => ⟨.ok, [FieldCode.none.code, byteOf (s.axis x).marks.length] ++ (s.axis x).marks.flatMap Mark.bytes, s⟩

/-- MARK_LIST. -/
def execMarkList (selector : Byte) (s : State) (filler : List Byte := []) : Host.Outcome State Fault Refusal :=
  .next (s.takeRequest .markList [selector] filler (markListOwner selector))

end Sys2Proof.Machine
end

