-- ==== Sys2Proof/Machine/JournalRequests.lean ====
section
/-! DEFINITION. READ_JOURNAL, ACK_JOURNAL and the freed-space service (chapter 8), READ_EVENTS and CLEAR_EVENTS (chapter 11). -/

namespace Sys2Proof.Machine

/-! ### READ JOURNAL -/

/-- The records a read returns: from its start, up to the count (R153). -/
def Journal.readFrom (j : Journal) (start : Half) (count : Nat) : List Record :=
  (j.records.drop (start - j.oldest).toNat).take count

/-- The reply of a refused READ JOURNAL (12.5). -/
def Journal.readRefusal (j : Journal) (f : FieldCode) : List Byte :=
  [0#8, f.code, byteOf j.records.length] ++ bytes2 j.oldest ++ bytes2 j.newest

/-- READ JOURNAL: count, window, newest plus one (R153). -/
def readJournalOwner (start : Half) (count : Byte) (s : State) : Answer :=
  if count.toNat = 0 ∨ Config.readLimit < count.toNat then ⟨.invalid, s.journal.readRefusal .count, s⟩
  else if s.journal.inWindow start then
    let rs := s.journal.readFrom start count.toNat
    ⟨.ok, byteOf rs.length :: rs.flatMap Record.bytes, s⟩
  else if start = s.journal.seq then ⟨.ok, [0#8], s⟩
  else ⟨.notFound, s.journal.readRefusal .none, s⟩

/-- READ_JOURNAL. -/
def execReadJournal (start : Half) (count : Byte) (s : State) (filler : List Byte := []) : Host.Outcome State Fault Refusal :=
  .next (s.takeRequest .readJournal (bytes2 start ++ [count]) filler (readJournalOwner start count))

/-! ### The freed-space service (R146, R147) -/

/-- A GAP record's content (R147). -/
def Entry.gap (lost : Nat) : Entry where
  kind := .gap
  axis := none
  halted := false
  tag := none
  cause := .none
  small := 0#8
  pulses := BitVec.ofNat 32 lost
  position := 0#32
  extra := none

/-- The GAP record is written and lost returns to 0 (R147). -/
def State.writeGap (s : State) : State :=
  ({ s with journal := { s.journal with lost := 0 } }).writeRecord (Entry.gap s.journal.lost)

/-- The axis at the head of the wait list leaves it and admits its head by the granted path (R44, R146). -/
def State.grantHead (s : State) (x : Axis) : State :=
  ({ s with journal := { s.journal with waitList := s.journal.waitList.tail } }).admitHead x

/-- The waiting axes are served in order until the admission rule refuses one (R146, step 2). -/
def State.serveWaiting : List Axis → State → State
  | [], s => s
  | x :: rest, s => if s.journal.admits then State.serveWaiting rest (s.grantHead x) else s

/-- The freed-space service: the GAP first, then the wait list; the first refusal ends it (R146). -/
def State.serveFreedSpace (s : State) : State :=
  if s.journal.lost = 0 then State.serveWaiting s.journal.waitList s
  else if s.journal.admits then State.serveWaiting s.journal.waitList s.writeGap
  else s

/-! ### ACK JOURNAL -/

/-- The reply of ACK JOURNAL: held, reserved, lost, oldest, newest (R155). -/
def Journal.ackReply (j : Journal) : List Byte :=
  [byteOf j.records.length, byteOf j.reserved] ++ bytes2 (BitVec.ofNat 16 j.lost) ++ bytes2 j.oldest ++ bytes2 j.newest

/-- The records from the oldest through a number are removed (R155). -/
def State.removeThrough (s : State) (a : Half) : State :=
  s.setJournal { s.journal with records := s.journal.records.drop ((a - s.journal.oldest).toNat + 1) }

/-- ACK JOURNAL (R155). -/
def ackJournalOwner (a : Half) (s : State) : Answer :=
  if s.journal.inWindow a then
    let t := (s.removeThrough a).serveFreedSpace
    ⟨.ok, t.journal.ackReply, t⟩
  else ⟨.notFound, s.journal.ackReply, s⟩

/-- ACK_JOURNAL. -/
def execAckJournal (a : Half) (s : State) (filler : List Byte := []) : Host.Outcome State Fault Refusal :=
  .next (s.takeRequest .ackJournal (bytes2 a) filler (ackJournalOwner a))

/-! ### Events -/

/-- READ EVENTS (R199). -/
def readEventsOwner (s : State) : Answer := ⟨.ok, s.eventReply, s⟩

/-- READ_EVENTS. -/
def execReadEvents (s : State) (filler : List Byte := []) : Host.Outcome State Fault Refusal :=
  .next (s.takeRequest .readEvents [] filler readEventsOwner)

/-- CLEAR EVENTS: each named flag becomes not pending (R200). -/
def clearEventsOwner (flags : Byte) (s : State) : Answer :=
  let t := { s with events := s.events &&& ~~~flags }
  ⟨.ok, t.eventReply, t⟩

/-- CLEAR_EVENTS. -/
def execClearEvents (flags : Byte) (s : State) (filler : List Byte := []) : Host.Outcome State Fault Refusal :=
  .next (s.takeRequest .clearEvents [flags] filler (clearEventsOwner flags))

end Sys2Proof.Machine
end

