-- ==== Sys2Proof/Machine/Resets.lean ====
section
/-! DEFINITION. CLEAR_COLD_FLAG, SOFT_RESET, the reset pin and the supply (chapter 9). -/

namespace Sys2Proof.Machine

/-- CLEAR COLD FLAG (R172). -/
def clearColdFlagOwner (s : State) : Answer := ⟨.ok, [0#8], { s with coldFlag := false }⟩

/-- CLEAR_COLD_FLAG. -/
def execClearColdFlag (s : State) (filler : List Byte := []) : Host.Outcome State Fault Refusal :=
  .next (s.takeRequest .clearColdFlag [] filler clearColdFlagOwner)

/-- The reply recovery places after a soft reset whose check passed (R165). -/
def softResetReply : Reply := ⟨.ok, RequestKind.softReset.code, []⟩

/-- SOFT_RESET: it takes effect at the rise of chip-select, and recovery follows in the same happening and empties the receiver of the
frame and its filler (R165, R174). -/
def execSoftReset (s : State) (_filler : List Byte := []) : Host.Outcome State Fault Refusal :=
  if s.linkTakes then
    let t := s.takeReports.chipSelectHigh
    .next (t.recoverWarmReset t.checkPasses .soft softResetReply)
  else .next s.chipSelectHigh

/-- PIN_RESET: a fall of the reset line. A running part is reset; without supply, or while the line is low, only the level is kept
(R161, R162, log 15). -/
def execPinReset (s : State) : Host.Outcome State Fault Refusal :=
  if s.live then .next s.pinResetTakesEffect else .next { s with resetLow := true }

/-- PIN_RESET_RELEASE: a rise of the reset line ends a pin reset by its retained check, and a power-on by cold initialisation
(R161, R164, R167). -/
def execPinResetRelease (disturbed : Bool) (s : State) : Host.Outcome State Fault Refusal :=
  match s.power with
  | .heldPin => .next (s.recoverWarmReset (s.checkPasses && !disturbed) .pin Reply.restarted)
  | .heldPowerOn => .next (s.coldInit .powerOn)
  | .off | .running => .next { s with resetLow := false }

/-- POWER_ON: the supply reaches its range; cold initialisation runs, or waits for the reset line (R160, R161). -/
def execPowerOn (s : State) : Host.Outcome State Fault Refusal :=
  if s.resetLow then .next { s with power := .heldPowerOn, link := s.link.discard } else .next (s.coldInit .powerOn)

/-- SUPPLY_OUT_OF_RANGE: all activity ends until a power-on (R161). -/
def execSupplyOutOfRange (s : State) : Host.Outcome State Fault Refusal :=
  .next { s with power := .off, a := s.a.stopPulses, b := s.b.stopPulses, link := s.link.discard }

end Sys2Proof.Machine
end

