-- ==== Sys2Proof/Machine/LineEvents.lean ====
section
/-! DEFINITION. The line reports: sync, limit, home and emergency (chapters 3 to 5, R205). A report moves the pin; a live engine takes it,
and an engine held by a reset or without supply does not (R163). -/

namespace Sys2Proof.Machine

/-- A shared line's report, as one engine takes it. On a live part a report outstanding to the engine is taken; otherwise a pin at
another level is a change of the line, which is reported to both engines and which this one takes; a pin already at the level is no change
(log 9). On a part that takes nothing only the pin moves (R163, log 16). -/
def State.report (s : State) (x : Axis) (r : Report) : State :=
  if s.live then
    if r ∈ (s.axis x).reports then s.takeThrough x r
    else if s.pins.holds r then s
    else (s.lineChanges r).takeThrough x r
  else s.movePin r

/-- SYNC_FALLING_EDGE, as one engine takes it (R72, R205). -/
def execSyncFallingEdge (x : Axis) (s : State) : Host.Outcome State Fault Refusal :=
  .next (s.report x (.sync false))

/-- SYNC_HIGH, as one engine takes it (R73, R205). -/
def execSyncHigh (x : Axis) (s : State) : Host.Outcome State Fault Refusal :=
  .next (s.report x (.sync true))

/-- EMERGENCY_ASSERT, as one engine takes it (R103, R104). -/
def execEmergencyAssert (x : Axis) (s : State) : Host.Outcome State Fault Refusal :=
  .next (s.report x (.emergency true))

/-- EMERGENCY_RELEASE, as one engine takes it: only the level changes (R105). -/
def execEmergencyRelease (x : Axis) (s : State) : Host.Outcome State Fault Refusal :=
  .next (s.report x (.emergency false))

/-- A limit pin is at a level. -/
def State.setLimitPin (s : State) (x : Axis) (side : Direction) (v : Bool) : State :=
  { s with pins := s.pins.setSwitches x ((s.pins.switches x).setLimit side v) }

/-- The home pin of an axis is at a level. -/
def State.setHomePin (s : State) (x : Axis) (v : Bool) : State :=
  { s with pins := s.pins.setSwitches x { s.pins.switches x with home := v } }

/-- A limit line's level as a live engine takes it. -/
def State.setLimitLine (s : State) (x : Axis) (side : Direction) (v : Bool) : State :=
  s.setLines x ((s.axis x).lines.setLimit side v)

/-- The home line's level as a live engine takes it. -/
def State.setHomeLine (s : State) (x : Axis) (v : Bool) : State :=
  s.setLines x { (s.axis x).lines with home := v }

/-- LIMIT_ASSERT (R99 to R102): an assertion of a line already asserted is no change of level (log 9). -/
def execLimitAssert (x : Axis) (side : Direction) (s : State) : Host.Outcome State Fault Refusal :=
  let t := s.setLimitPin x side true
  if s.live then
    if (s.axis x).lines.limit side then .next t else .next ((t.setLimitLine x side true).limitStop x side)
  else .next t

/-- LIMIT_RELEASE: only the level changes (R99). -/
def execLimitRelease (x : Axis) (side : Direction) (s : State) : Host.Outcome State Fault Refusal :=
  let t := s.setLimitPin x side false
  if s.live then .next (t.setLimitLine x side false) else .next t

/-- HOME_ASSERT (R61 to R63, R98): an assertion of a line already asserted is no change of level (log 9). -/
def execHomeAssert (x : Axis) (s : State) : Host.Outcome State Fault Refusal :=
  let t := s.setHomePin x true
  if s.live then
    if (s.axis x).lines.home then .next t else .next ((t.setHomeLine x true).homeFound x)
  else .next t

/-- HOME_RELEASE: only the level changes (R61). -/
def execHomeRelease (x : Axis) (s : State) : Host.Outcome State Fault Refusal :=
  let t := s.setHomePin x false
  if s.live then .next (t.setHomeLine x false) else .next t

end Sys2Proof.Machine
end

