-- ==== Sys2Proof/Machine/Happenings.lean ====
section
/-! DEFINITION. The engines' own happenings: pulses, timers and admission attempts (chapters 3 and 4). None is taken while a reset holds
the part or the supply is out of range (R163). A happening in a state where it cannot occur changes nothing (log 4). -/

namespace Sys2Proof.Machine

/-- PULSE (R55). -/
def execPulse (x : Axis) (s : State) : Host.Outcome State Fault Refusal :=
  if s.live then .next (s.emitPulse x) else .next s

/-- DWELL_TIMEOUT (R64). -/
def execDwellTimeout (x : Axis) (s : State) : Host.Outcome State Fault Refusal :=
  if s.live then .next (s.dwellEnds x) else .next s

/-- ARM_TIMEOUT (R81). -/
def execArmTimeout (x : Axis) (s : State) : Host.Outcome State Fault Refusal :=
  if s.live then .next (s.armEnds x) else .next s

/-- ADMISSION_ATTEMPT (R42, R43). -/
def execAdmissionAttempt (x : Axis) (s : State) : Host.Outcome State Fault Refusal :=
  if s.live then .next (s.attemptAdmission x) else .next s

end Sys2Proof.Machine
end

