-- ==== Sys2Proof/Machine/Dispatch.lean ====
section
/-! DEFINITION. One arm for each command: a direct call of its meaning. -/

namespace Sys2Proof.Machine

/-- The effect of a command on everything but the queue of waiting commands. -/
def exec (i : Instr) (s : State) : Host.Outcome State Fault Refusal :=
  match i with
  | .nop filler => Sys2Proof.Machine.execNop s filler
  | .getStatus filler => Sys2Proof.Machine.execGetStatus s filler
  | .getSettings filler => Sys2Proof.Machine.execGetSettings s filler
  | .setSettings settings filler => Sys2Proof.Machine.execSetSettings settings s filler
  | .queueMoves selector moves filler => Sys2Proof.Machine.execQueueMoves selector moves s filler
  | .flushQueue selector filler => Sys2Proof.Machine.execFlushQueue selector s filler
  | .stopAxis selector style after filler => Sys2Proof.Machine.execStopAxis selector style after s filler
  | .resumeAxis selector filler => Sys2Proof.Machine.execResumeAxis selector s filler
  | .retune selector rate filler => Sys2Proof.Machine.execRetune selector rate s filler
  | .setPosition selector value filler => Sys2Proof.Machine.execSetPosition selector value s filler
  | .writeProfile index profile filler => Sys2Proof.Machine.execWriteProfile index profile s filler
  | .readProfile index filler => Sys2Proof.Machine.execReadProfile index s filler
  | .stationStore station presenceA valueA presenceB valueB filler => Sys2Proof.Machine.execStationStore station presenceA valueA presenceB valueB s filler
  | .stationTeach station axisSet filler => Sys2Proof.Machine.execStationTeach station axisSet s filler
  | .stationRead station filler => Sys2Proof.Machine.execStationRead station s filler
  | .stationClear station axisSet filler => Sys2Proof.Machine.execStationClear station axisSet s filler
  | .markAdd selector id position sense filler => Sys2Proof.Machine.execMarkAdd selector id position sense s filler
  | .markRemove selector id filler => Sys2Proof.Machine.execMarkRemove selector id s filler
  | .markList selector filler => Sys2Proof.Machine.execMarkList selector s filler
  | .readJournal start count filler => Sys2Proof.Machine.execReadJournal start count s filler
  | .ackJournal number filler => Sys2Proof.Machine.execAckJournal number s filler
  | .readEvents filler => Sys2Proof.Machine.execReadEvents s filler
  | .clearEvents flags filler => Sys2Proof.Machine.execClearEvents flags s filler
  | .clearColdFlag filler => Sys2Proof.Machine.execClearColdFlag s filler
  | .softReset filler => Sys2Proof.Machine.execSoftReset s filler
  | .frameRejected bytes => Sys2Proof.Machine.execFrameRejected bytes s
  | .syncFallingEdge engine => Sys2Proof.Machine.execSyncFallingEdge engine s
  | .syncHigh engine => Sys2Proof.Machine.execSyncHigh engine s
  | .limitAssert axis side => Sys2Proof.Machine.execLimitAssert axis side s
  | .limitRelease axis side => Sys2Proof.Machine.execLimitRelease axis side s
  | .homeAssert axis => Sys2Proof.Machine.execHomeAssert axis s
  | .homeRelease axis => Sys2Proof.Machine.execHomeRelease axis s
  | .emergencyAssert engine => Sys2Proof.Machine.execEmergencyAssert engine s
  | .emergencyRelease engine => Sys2Proof.Machine.execEmergencyRelease engine s
  | .pinReset => Sys2Proof.Machine.execPinReset s
  | .pinResetRelease disturbed => Sys2Proof.Machine.execPinResetRelease disturbed s
  | .powerOn => Sys2Proof.Machine.execPowerOn s
  | .pulse axis => Sys2Proof.Machine.execPulse axis s
  | .dwellTimeout axis => Sys2Proof.Machine.execDwellTimeout axis s
  | .armTimeout axis => Sys2Proof.Machine.execArmTimeout axis s
  | .admissionAttempt axis => Sys2Proof.Machine.execAdmissionAttempt axis s
  | .supplyOutOfRange => Sys2Proof.Machine.execSupplyOutOfRange s
  | .chipSelectFall => Sys2Proof.Machine.execChipSelectFall s

end Sys2Proof.Machine
end

