-- ==== Sys2Proof/Safety.lean ====
section
/-! DEFINITION. The laws of the part that a run keeps, as predicates of one state, and the states in which the link takes a request. -/

namespace Sys2Proof

/-- The selector byte of an axis (12.7). -/
def Axis.selector : Axis → Byte
  | .A => 1#8
  | .B => 2#8

/-- A command that stands for the rise of chip-select at the end of a transaction: a request, or a rejected frame. -/
def Instr.isTransaction : Instr → Bool
  | .frameRejected _ => true
  | i => (payloadOfRequest i).isSome

end Sys2Proof

namespace Sys2Proof.Machine

/-! ### Axes -/

/-- The axis has a current move exactly in ARMED, RUNNING and STOPPING (R39). -/
abbrev AxisUnit.SlotLaw (u : AxisUnit) : Prop := u.slot.isSome = u.state.holdsMove

/-- The phase and the pending stop of a current move agree with the axis state (R26, R86). -/
abbrev AxisUnit.PhaseLaw (u : AxisUnit) : Prop :=
  ∀ sl ∈ u.slot,
    (u.state = .armed → sl.phase = .none ∧ sl.level = 0 ∧ sl.stop = none) ∧
    (u.state = .running → (sl.phase.pulsing = true ∨ sl.phase = .wait) ∧ sl.stop = none) ∧
    (u.state = .stopping → sl.phase = .stopping ∧ sl.stop.isSome = true)

/-- Once an engine has taken the assertion of the emergency line, its axis is HALTED, or STOPPING with a halting after-action (R105). -/
abbrev AxisUnit.EmergencyLaw (u : AxisUnit) : Prop :=
  u.lines.emergency = true →
    u.state = .halted ∨ (u.state = .stopping ∧ ∀ sl ∈ u.slot, sl.pendingStop.after ≠ .proceed)

/-- The queue holds at most 32 records (R7), each with a value its kind admits (R2). -/
abbrev AxisUnit.QueueLaw (u : AxisUnit) : Prop :=
  u.queue.length ≤ Config.queueCapacity ∧ ∀ m ∈ u.queue, m.kind.admits m.value = true

/-- Marks in strictly ascending id: the table's form, and the ids pairwise distinct (R112). -/
abbrev marksAscend (ms : List Mark) : Prop := ms.Pairwise (fun m k => m.id < k.id)

/-- The table holds at most 8 marks, in ascending id (R112). -/
abbrev AxisUnit.MarkLaw (u : AxisUnit) : Prop := u.marks.length ≤ Config.markCapacity ∧ marksAscend u.marks

/-- A distance move has delivered fewer pulses than its distance while it emits, and none while it is ARMED (R28, R41). -/
abbrev AxisUnit.DistanceLaw (u : AxisUnit) : Prop :=
  ∀ sl ∈ u.slot, ∀ d ∈ sl.distance, d ≤ Config.distanceLimit ∧
    (u.state = .armed → sl.delivered = 0#32) ∧ (u.emitting = true → sl.delivered.toNat < d)

/-- The rates of a snapshot lie in the range of R20: no level runs below the base rate or above 200,000 pps (R25). -/
abbrev Snapshot.RangeLaw (p : Snapshot) : Prop :=
  1 ≤ p.base ∧ p.base ≤ p.cruise ∧ p.cruise ≤ Config.rateLimit ∧ p.base ≤ p.ceiling ∧ p.ceiling ≤ Config.rateLimit ∧ 1 ≤ p.ramp

/-- The current move's rates lie in their range, and no pulse interval is shorter than 80 reference periods (R25, R53). -/
abbrev AxisUnit.RateLaw (u : AxisUnit) : Prop :=
  ∀ sl ∈ u.slot, sl.snap.RangeLaw ∧ ∀ n ∈ sl.interval, 80 ≤ n

/-! ### Journal -/

/-- The number of axes with a current move. -/
def State.moves (s : State) : Nat := s.a.slot.toList.length + s.b.slot.toList.length

/-- The reservation count equals the number of axes with a current move (R140). -/
abbrev State.ReservationLaw (s : State) : Prop := s.journal.reserved = s.moves

/-- The newest held record is a RESTART. -/
def Journal.newestIsRestart (j : Journal) : Bool :=
  match j.records.getLast? with
  | none => false
  | some r => r.entry.kind == .restart

/-- Held plus reserved is at most 128, and above 126 the newest record is a RESTART and nothing is reserved (R134, R149). -/
abbrev Journal.CapacityLaw (j : Journal) : Prop :=
  j.total ≤ Config.journalCapacity ∧
    (Config.admissionLimit < j.total → j.newestIsRestart = true ∧ j.reserved = 0)

/-- The held records carry consecutive numbers, the first of them being the given one. -/
def consecutiveFrom (n : Half) : List Record → Prop
  | [] => True
  | r :: rest => r.seq = n ∧ consecutiveFrom (n + 1#16) rest

/-- The held records carry consecutive numbers up to the counter, which is the newest plus one (R134). -/
abbrev Journal.SequenceLaw (j : Journal) : Prop :=
  consecutiveFrom (j.seq - BitVec.ofNat 16 j.records.length) j.records

/-- The lost count saturates (R143). -/
abbrev Journal.LostLaw (j : Journal) : Prop := j.lost ≤ Config.countLimit

/-- A claim waits, or a loss is unreported, only while held plus reserved stands at 126 or more (R145). -/
abbrev Journal.ClaimLaw (j : Journal) : Prop :=
  (j.waitList ≠ [] ∨ 0 < j.lost) → Config.admissionLimit ≤ j.total

/-- An axis is on the wait list exactly while it is BLOCKED, and never twice (R39, R144). -/
abbrev State.WaitListLaw (s : State) : Prop :=
  s.journal.waitList.Nodup ∧ (Axis.A ∈ s.journal.waitList ↔ s.a.state = .blocked) ∧
    (Axis.B ∈ s.journal.waitList ↔ s.b.state = .blocked)

/-- A BLOCKED axis has a queued record (R41). -/
abbrev AxisUnit.BlockedLaw (u : AxisUnit) : Prop := u.state = .blocked → u.queue ≠ []

/-! ### Retained store, profiles, settings, link -/

/-- The check code matches the retained set as it stands (R166). -/
abbrev State.CheckLaw (s : State) : Prop := s.check = s.retained

/-- A profile satisfies its ranges (R20). -/
abbrev Profile.RangeLaw (p : Profile) : Prop :=
  1 ≤ p.base ∧ p.base ≤ p.cruise ∧ p.cruise ≤ Config.rateLimit ∧ 1 ≤ p.ramp ∧ p.ramp ≤ 65535 ∧ p.settle ≤ Config.settleLimit

/-- Every profile satisfies its ranges (R20). -/
abbrev State.ProfileLaw (s : State) : Prop := ∀ i : Fin 8, (s.profiles[i]).RangeLaw

/-- The journal threshold is 1 to 128 (R185). -/
abbrev State.ThresholdLaw (s : State) : Prop :=
  1 ≤ s.settings.threshold.toNat ∧ s.settings.threshold.toNat ≤ 128

/-- The receiver keeps at most 67 bytes (R176), and no reply payload is longer than 64 (R178). -/
abbrev Link.SizeLaw (l : Link) : Prop :=
  l.receiver.bytes.length ≤ Config.frameBytes ∧ l.slot.payload.length ≤ Config.payloadLimit

/-! ### Lines -/

/-- The levels an engine has after it takes a report of a shared line. -/
def Lines.report (l : Lines) : Report → Lines
  | .emergency v => { l with emergency := v }
  | .sync h => { l with syncHigh := h }

/-- An engine that takes every report outstanding to it has the levels of the pins (R205). -/
abbrev AxisUnit.LineLaw (u : AxisUnit) (l : Lines) : Prop := u.reports.foldl Lines.report u.lines = l

/-- While the part runs, each engine's levels are those of its pins but for the reports outstanding to it (R70, R205). -/
abbrev State.LineLaw (s : State) : Prop :=
  s.power = .running → s.a.LineLaw (s.pins.lines .A) ∧ s.b.LineLaw (s.pins.lines .B)

/-! ### Requests -/

/-- The part after a request is answered: its frame and filler in the receiver, and the owner's status and payload in the reply slot with
the request's kind byte echoed (R176, R179, R181). -/
def State.answered (s : State) (i : Instr) (status : Status) (reply : List Byte) : State :=
  match payloadOfRequest i with
  | none => s
  | some p => s.withLink (s.link.replied (requestFrame p.1.code p.2 ++ fillerOfRequest i) ⟨status, p.1.code, reply⟩)

/-! ### All of it -/

/-- The laws of the axes and their claims, which hold each other up. -/
structure State.EngineLaws (s : State) : Prop where
  slotA : s.a.SlotLaw
  slotB : s.b.SlotLaw
  phaseA : s.a.PhaseLaw
  phaseB : s.b.PhaseLaw
  blockedA : s.a.BlockedLaw
  blockedB : s.b.BlockedLaw
  reservation : s.ReservationLaw
  waitList : s.WaitListLaw
  capacity : s.journal.CapacityLaw
  claims : s.journal.ClaimLaw

/-- The laws of the tables, the counts and the link, each field's own range (R2, R7, R20, R25, R112, R134, R143, R176, R178, R185). -/
structure State.TableLaws (s : State) : Prop where
  queueA : s.a.QueueLaw
  queueB : s.b.QueueLaw
  marksA : s.a.MarkLaw
  marksB : s.b.MarkLaw
  distanceA : s.a.DistanceLaw
  distanceB : s.b.DistanceLaw
  rateA : s.a.RateLaw
  rateB : s.b.RateLaw
  sequence : s.journal.SequenceLaw
  lost : s.journal.LostLaw
  profiles : s.ProfileLaw
  threshold : s.ThresholdLaw
  size : s.link.SizeLaw

end Sys2Proof.Machine
end

