-- ==== Sys2Proof/Certificates/Slice0/Obligations.lean ====
section
/-! DEFINITION. What the spec says of the part, stated for the provers. A request's statements suppose that the link takes it and that
both engines have taken every report of the shared lines (linkReady), as R205 has it at every request; OutstandingReportsComeFirst
and IgnoredTransactionsDoNothing state the rest. They hold whatever filler bytes follow the request's frame (R176). -/

open Sys2Proof Sys2Proof.Machine

/-! ### The step and the queue of commands -/

/-- One step runs the front command on the part with the queue's rest; on an empty queue the part idles (the model's choice, log 2). -/
def Obligations.StepTakesTheFrontCommand : Prop :=
  ∀ s : State,
    (∀ c rest, s.pending = c :: rest → step s = exec c { s with pending := rest }) ∧ (s.pending = [] → step s = .next s)

/-- Every command completes and leaves the queue of waiting commands, except FRAME_REJECTED on bytes that pass every check of R180 while
the link takes them, which the model refuses by name (log 11). -/
def Obligations.CommandsCompleteAndLeaveTheQueue : Prop :=
  ∀ (c : Instr) (s : State),
    (∃ t, exec c s = .next t ∧ t.pending = s.pending) ∨
      (∃ bytes, c = .frameRejected bytes ∧ bytes ≠ [] ∧ linkCheck (bytes.take 67) = none ∧ s.linkTakes = true ∧
        exec c s = .refused .frameNotRejected)

/-! ### Frames -/

/-- A request's frame, with any filler bytes after it in the transaction, makes that request with every operand (R176, R192, 12.5). -/
def Obligations.RequestFramesDecode : Prop :=
  ∀ (i : Instr) (frame : List Byte), i.wellFormed = true → frameOfRequest i = some frame →
    commandOfTransaction (frame ++ fillerOfRequest i) = some i

/-- A frame cut short fails the first check of R180, and a frame with one byte changed, its length byte apart, fails the second. -/
def Obligations.DamagedFramesAreRejected : Prop :=
  ∀ (i : Instr) (frame : List Byte), i.wellFormed = true → frameOfRequest i = some frame →
    (∀ n, 0 < n → n < frame.length →
      linkCheck (frame.take n) = some .frameError ∧
        commandOfTransaction (frame.take n) = some (.frameRejected (frame.take n))) ∧
    (∀ k b, k < frame.length → k ≠ 1 → frame[k]? ≠ some b →
      linkCheck (frame.set k b) = some .crcError ∧
        commandOfTransaction (frame.set k b) = some (.frameRejected (frame.set k b)))

/-- The polynomial over two elements whose coefficient of each power is the bit of that number. -/
noncomputable def bytePolynomial (b : Byte) : Polynomial (ZMod 2) :=
  ((List.range 8).map (fun i => if b.getLsbD i then Polynomial.X ^ i else 0)).sum

/-- The message polynomial of a run of bytes, first byte most significant. -/
noncomputable def messagePolynomial (bytes : List Byte) : Polynomial (ZMod 2) :=
  bytes.foldl (fun p b => p * Polynomial.X ^ 8 + bytePolynomial b) 0

/-- The CRC is the remainder of the message, shifted left by eight, modulo the generator of R177,
  it is 21 for the two bytes 1 and 0, and
a run of bytes with its CRC appended leaves 0. A request frame's CRC covers kind, length and payload, and a reply frame's covers status,
echoed kind, length and payload; the status codes are those of 12.2. -/
def Obligations.CrcIsThePolynomialRemainder : Prop :=
  (∀ bytes : List Byte,
    ((Polynomial.X ^ 8 + Polynomial.X ^ 2 + Polynomial.X + 1 : Polynomial (ZMod 2)) ∣
        messagePolynomial bytes * Polynomial.X ^ 8 + bytePolynomial (crc8 bytes)) ∧
      crc8 (bytes ++ [crc8 bytes]) = 0#8) ∧
  crc8 [1#8, 0#8] = 21#8 ∧
  (∀ (kind : Byte) (payload covered : List Byte), covered = kind :: byteOf payload.length :: payload →
    requestFrame kind payload = covered ++ [crc8 covered]) ∧
  [Status.ok, .invalid, .busy, .full, .notFound, .duplicate, .emergency, .frameError, .crcError, .unknownKind, .lengthError,
    .restarted].map Status.code =
    [0x00#8, 0x01#8, 0x02#8, 0x03#8, 0x04#8, 0x05#8, 0x06#8, 0x10#8, 0x11#8, 0x12#8, 0x13#8, 0x20#8] ∧
  ∀ (r : Reply) (covered : List Byte), covered = r.status.code :: r.kind :: byteOf r.payload.length :: r.payload →
    r.bytes = covered ++ [crc8 covered]

/-! ### The link -/

/-- The four checks of R180 in order over the bytes kept: the first that fails decides, and a frame that fails none is no rejected
frame. A transaction that fails one gets that status with the received kind byte and no payload, and sets LINK_ERROR; nothing else of
the part is reached, and reports outstanding stay so (log 7). A transaction of no byte leaves the reply slot and sets no event (R175). -/
def Obligations.FailedFramesAreAnsweredByTheLink : Prop :=
  (∀ bytes : List Byte, bytes.length < 2 → linkCheck bytes = some .frameError) ∧
  (∀ (kind len : Byte) (rest : List Byte),
    (64 < len.toNat ∨ (kind :: len :: rest).length < 3 + len.toNat → linkCheck (kind :: len :: rest) = some .frameError) ∧
    (len.toNat ≤ 64 → 3 + len.toNat ≤ (kind :: len :: rest).length →
      (rest[len.toNat]? ≠ some (crc8 (kind :: len :: rest.take len.toNat)) → linkCheck (kind :: len :: rest) = some .crcError) ∧
      (rest[len.toNat]? = some (crc8 (kind :: len :: rest.take len.toNat)) →
        ((∀ k : RequestKind, k.code ≠ kind) → linkCheck (kind :: len :: rest) = some .unknownKind) ∧
        ∀ k : RequestKind, k.code = kind →
          linkCheck (kind :: len :: rest) = if len.toNat ∈ k.lengths then none else some .lengthError))) ∧
  ∀ s : State, s.linkTakes = true →
    (∀ (kind : Byte) (rest : List Byte) (e : LinkError), linkCheck ((kind :: rest).take 67) = some e →
      exec (.frameRejected (kind :: rest)) s = .next
        { s with
          events := s.events ||| 2#8
          link := ⟨.high, ⟨(kind :: rest).take 67, (kind :: rest).length⟩, ⟨statusOfLinkError e, kind, []⟩, s.link.fixedReply⟩ }) ∧
    exec (.frameRejected []) s = .next { s with link := ⟨.high, ⟨[], 0⟩, s.link.slot, s.link.fixedReply⟩ }

/-- The fall of chip-select empties the receiver and fixes the reply to be shifted out, and that reply stays fixed through whatever the
running part does before the rise, and at it, SOFT RESET apart, which leaves an empty receiver. The rise leaves the transaction's first
67 bytes and their count in the receiver, and what the host has read in it is the fixed reply and then zeros. The data output is driven
inside such a transaction alone. A part held by a reset will ignore the transaction whole (R164, R175, R176, R178, R183, R184). That
the receiver still holds the transaction's bytes and their count after the rise (log 12), that the bytes read follow from that count
(log 23), that a part without supply ignores a transaction too (log 14), and that a fall with chip-select low begins a new transaction
(log 21), are the model's choices. -/
def Obligations.ChipSelectFallFixesTheReply : Prop :=
  (∀ s : State,
    exec .chipSelectFall s = .next
      { s with
        link :=
          if s.power = .running then ⟨.low, ⟨[], 0⟩, s.link.slot, some s.link.slot⟩ else { s.link with chipSelect := .ignored } }) ∧
  (∀ (c : Instr) (s t : State), s.link.chipSelect = .low → exec c s = .next t → t.power = .running → c ≠ .chipSelectFall →
    (∀ filler, c ≠ .softReset filler) → c ≠ .powerOn → (∀ d, c ≠ .pinResetRelease d) → t.link.shifted = s.link.shifted) ∧
  (∀ (c : Instr) (s t : State) (r : Reply) (bytes : List Byte), s.power = .running → s.link.chipSelect = .low →
    s.link.shifted = some r → (frameOfRequest c).map (· ++ fillerOfRequest c) = some bytes ∨ c = .frameRejected bytes →
    (∀ filler, c ≠ .softReset filler) → exec c s = .next t →
    t.link.receiver = ⟨bytes.take 67, bytes.length⟩ ∧ t.link.bytesOut = r.shiftOut bytes.length) ∧
  (∀ (r : Reply) (n k : Nat), (r.shiftOut n).length = n ∧ (k < n → (r.shiftOut n)[k]? = some (r.bytes[k]?.getD 0#8))) ∧
  ∀ s : State, s.dataOutDriven = true ↔ s.power = .running ∧ s.link.chipSelect = .low

/-- A transaction that began while a reset held the part, or that ends while one does, changes nothing but chip-select (R163, R164,
R184). That the same holds of a part without supply is the model's choice (log 14). -/
def Obligations.IgnoredTransactionsDoNothing : Prop :=
  ∀ (c : Instr) (s : State), c.isTransaction = true → (s.power ≠ .running ∨ s.link.chipSelect = .ignored) →
    exec c s = .next { s with link := { s.link with chipSelect := .high } }

/-- The command of a shared line's report, as an engine takes it. -/
def reportCommand (x : Axis) : Report → Instr
  | .emergency true => .emergencyAssert x
  | .emergency false => .emergencyRelease x
  | .sync false => .syncFallingEdge x
  | .sync true => .syncHigh x

/-- Each engine takes what is outstanding of the shared lines before the link takes a request (R205): a request meets the part as the
commands of those reports leave it, each engine's reports in the order they were made. That axis A's engine takes all of its reports
before axis B's is the model's choice (log 7). -/
def Obligations.OutstandingReportsComeFirst : Prop :=
  (∀ (s : State) (x : Axis) (r : Report) (rest : List Report), s.power = .running → (s.axis x).reports = r :: rest →
    x = .A ∨ s.a.reports = [] →
    ∃ t, exec (reportCommand x r) s = .next t ∧ (t.axis x).reports = rest ∧ (t.axis x.other).reports = (s.axis x.other).reports ∧
      s.takeReports = t.takeReports) ∧
  (∀ s : State, s.a.reports = [] → s.b.reports = [] → s.takeReports = s) ∧
  ∀ (c : Instr) (s : State), c.wellFormed = true → (payloadOfRequest c).isSome = true → s.linkTakes = true →
    exec c s = exec c s.takeReports ∧ s.takeReports.linkReady = true

/-- While a reset holds the part, a command that does not end the hold changes only the input pins, the reset line's level and
chip-select, and every output is at rest (R163). That a part without supply does the same is the model's choice (log 14). -/
def Obligations.HeldPartTakesNothing : Prop :=
  ∀ (c : Instr) (s t : State), s.power ≠ .running → c ≠ .powerOn → c ≠ .supplyOutOfRange → (∀ d, c ≠ .pinResetRelease d) →
    exec c s = .next t →
    t = { s with pins := t.pins, resetLow := t.resetLow, link := { s.link with chipSelect := t.link.chipSelect } } ∧
      t.irqLow = false ∧ t.dataOutDriven = false ∧ t.directionHigh .A = false ∧ t.directionHigh .B = false

/-- NOP gets OK with no payload and changes nothing in any block (R191). -/
def Obligations.NopChangesNothing : Prop :=
  ∀ (s : State) (filler : List Byte), s.linkReady = true → exec (.nop filler) s = .next (s.answered (.nop filler) .ok [])

/-- GET STATUS changes nothing, and its reply carries the items of R189 at the places and with the codes 12.5 and 12.7 give; the tag bytes
are 0 with no current move. -/
def Obligations.GetStatusReportsThePart : Prop :=
  ∀ (s : State) (filler : List Byte), s.linkReady = true →
    exec (.getStatus filler) s = .next (s.answered (.getStatus filler) .ok s.statusBytes) ∧ s.statusBytes.length = 42 ∧
    s.statusBytes.drop 32 =
      [byteOf s.journal.records.length, byteOf s.journal.reserved] ++ bytes2 s.journal.oldest ++ bytes2 s.journal.newest ++
        bytes2 (BitVec.ofNat 16 s.journal.lost) ++ [if s.coldFlag then 1#8 else 0#8, s.lineByte] ∧
    [AxisState.idle, .blocked, .armed, .running, .stopping, .halted].map AxisState.code = [0#8, 1#8, 2#8, 3#8, 4#8, 5#8] ∧
    [Phase.none, .accel, .cruise, .slowing, .decel, .settle, .wait, .stopping].map Phase.code =
      [0#8, 1#8, 2#8, 3#8, 4#8, 5#8, 6#8, 7#8] ∧
    (List.range 8).map s.lineByte.getLsbD =
      [s.pins.syncHigh, s.pins.emergency, s.b.lines.home, s.a.lines.home, s.b.lines.limitMinus, s.b.lines.limitPlus,
        s.a.lines.limitMinus, s.a.lines.limitPlus] ∧
    ∀ (x : Axis) (base : Nat), base = (match x with | .A => 0 | .B => 16) →
      s.statusBytes[base]? = some (s.axis x).state.code ∧
      ((s.axis x).slot = none → (s.statusBytes.drop (base + 1)).take 7 = List.replicate 7 0#8) ∧
      (∀ sl, (s.axis x).slot = some sl → (s.axis x).emitting = true →
        (s.statusBytes.drop (base + 1)).take 7 = sl.phase.code :: bytes3 sl.level ++ bytes3 (sl.snap.rate sl.level)) ∧
      (∀ sl, (s.axis x).slot = some sl → (s.axis x).emitting = false →
        (s.statusBytes.drop (base + 1)).take 7 = sl.phase.code :: List.replicate 6 0#8) ∧
      (s.statusBytes.drop (base + 8)).take 4 = bytes4 (s.axis x).position ∧
      (∀ sl, (s.axis x).slot = some sl → (s.statusBytes.drop (base + 12)).take 2 = bytes2 sl.move.tag) ∧
      ((s.axis x).slot = none → (s.statusBytes.drop (base + 12)).take 2 = [0#8, 0#8]) ∧
      s.statusBytes[base + 14]? =
        some ((if (s.axis x).slot = none then 0x80#8 else 0#8) ||| (if x ∈ s.journal.waitList then 0x40#8 else 0#8)) ∧
      s.statusBytes[base + 15]? = some (byteOf (s.axis x).queue.length)

/-! ### Field checks -/

/-- What fails each field of a move record, over the codes of 12.7 and the ranges of R2 to R4 (the table of R6). -/
def moveFieldFails (r : RawMove) : FieldCode → Bool
  | .kind => r.kind = 0#4 ∨ 6 < r.kind.toNat
  | .profile => 7 < r.profile.toNat
  | .start => 2 < r.start.toNat
  | .pair => (r.start = 2#4 ∧ (r.pair = 0#8 ∨ 15 < r.pair.toNat)) ∨ (r.start ≠ 2#4 ∧ r.pair ≠ 0#8)
  | .direction => 1 < r.direction.toNat ∨ ((r.kind = 2#4 ∨ r.kind = 3#4 ∨ r.kind = 6#4) ∧ r.direction = 1#2)
  | .capture => 1 < r.capture.toNat ∨ (r.capture = 1#2 ∧ r.kind ≠ 5#4)
  | .value =>
    (r.kind = 1#4 ∧ 16777215 < r.value.toNat) ∨ (r.kind = 3#4 ∧ 31 < r.value.toNat) ∨ (r.kind = 4#4 ∧ r.value ≠ 0#32) ∨
      (r.kind = 5#4 ∧ (r.value = 0#32 ∨ 16777215 < r.value.toNat)) ∨ (r.kind = 6#4 ∧ (r.value = 0#32 ∨ 65535 < r.value.toNat))
  | .aux => r.aux ≠ 0#32 ∧ ¬(r.kind = 5#4 ∧ r.capture = 1#2)
  | _ => false

/-- A record's fields are checked in the order of R6, the first that fails is its field code, and a record none of whose fields fails is
the move it spells, by the codes of 12.3 and 12.7. -/
def Obligations.MoveFieldsAreCheckedInOrder : Prop :=
  [FieldCode.kind, .profile, .start, .pair, .direction, .capture, .value, .aux].map FieldCode.code =
    [2#8, 3#8, 4#8, 5#8, 6#8, 7#8, 8#8, 9#8] ∧
  [1#4, 2#4, 3#4, 4#4, 5#4, 6#4].map moveKindOfCode =
    [some .relative, some .absolute, some .station, some .run, some .home, some .dwell] ∧
  [0#4, 1#4, 2#4].map startOfCode = [some .now, some .line, some .pair] ∧
  [0#2, 1#2].map directionOfCode = [some .plus, some .minus] ∧ [0#2, 1#2].map captureOfCode = [some false, some true] ∧
  ∀ r : RawMove,
    match [FieldCode.kind, .profile, .start, .pair, .direction, .capture, .value, .aux].find? (moveFieldFails r) with
    | some f => checkMove r = .error f
    | none => ∃ m, checkMove r = .ok m ∧ moveKindOfCode r.kind = some m.kind ∧ m.profile.val = r.profile.toNat ∧
        startOfCode r.start = some m.start ∧ directionOfCode r.direction = some m.direction ∧
        captureOfCode r.capture = some m.capture ∧ m.pair = r.pair ∧ m.tag = r.tag ∧ m.value = r.value ∧ m.aux = r.aux

/-- What fails each field of a WRITE PROFILE (the table of R22). -/
def profileFieldFails (index : Byte) (r : RawProfile) : FieldCode → Bool
  | .index => 7 < index.toNat
  | .base => r.base = 0#32 ∨ 200000 < r.base.toNat
  | .cruise => 200000 < r.cruise.toNat ∨ r.cruise.toNat < r.base.toNat
  | .ramp => r.ramp = 0#16
  | .settle => 255 < r.settle.toNat
  | .limitStyle => 1 < r.limitStyle.toNat
  | .homeStyle => 1 < r.homeStyle.toNat
  | _ => false

/-- WRITE PROFILE is checked in the order of R22; refused, it changes nothing and names the first failing field; else all six fields of
the indexed profile are replaced at once, the check code follows, and the reply carries the index and the top level. That a refused
reply's index is 0 is the model's reading (log 10). -/
def Obligations.WriteProfileReplacesTheProfile : Prop :=
  [FieldCode.index, .base, .cruise, .ramp, .settle, .limitStyle, .homeStyle].map FieldCode.code =
    [0x10#8, 0x11#8, 0x12#8, 0x13#8, 0x14#8, 0x15#8, 0x16#8] ∧
  [0#8, 1#8].map styleOfCode = [some .immediate, some .ramped] ∧
  ∀ (s : State) (index : Byte) (r : RawProfile) (filler : List Byte), s.linkReady = true →
    match [FieldCode.index, .base, .cruise, .ramp, .settle, .limitStyle, .homeStyle].find? (profileFieldFails index r) with
    | some f => exec (.writeProfile index r filler) s =
      .next (s.answered (.writeProfile index r filler) .invalid [f.code, 0#8, 0#8, 0#8, 0#8])
    | none => ∃ (i : Fin 8) (p : Profile), i.val = index.toNat ∧ p.base = r.base.toNat ∧ p.cruise = r.cruise.toNat ∧
        p.ramp = r.ramp.toNat ∧ p.settle = r.settle.toNat ∧ styleOfCode r.limitStyle = some p.limitStyle ∧
        styleOfCode r.homeStyle = some p.homeStyle ∧
        exec (.writeProfile index r filler) s = .next
          (State.answered (State.seal { s with profiles := s.profiles.set i p }) (.writeProfile index r filler) .ok
            ([0#8, index] ++ bytes3 (topLevel p.base p.cruise p.ramp)))

/-- The top level is the smallest whole number not less than (c - b) / i, so the top level's rate is exactly the cruise rate (R25); the
interval of a rate is 16,000,000 divided by it, to the nearest whole period, half up (R53). -/
def Obligations.RatesAndIntervals : Prop :=
  (∀ b c i : Nat, 1 ≤ i → b ≤ c →
    c - b ≤ i * topLevel b c i ∧ (∀ n, c - b ≤ i * n → topLevel b c i ≤ n) ∧ min (b + i * topLevel b c i) c = c) ∧
  ∀ r : Nat, 1 ≤ r → 2 * r * intervalOf r ≤ 2 * 16000000 + r ∧ 2 * 16000000 + r < 2 * r * (intervalOf r + 1)

/-- READ PROFILE changes nothing: it reports the entry with its top level, and a number above 7 as INVALID with the index as received;
after a WRITE PROFILE that got OK, it reads back the fourteen bytes written (R22, R23, 12.5). -/
def Obligations.ReadProfileReadsBack : Prop :=
  ∀ (s : State) (index : Byte) (filler : List Byte), s.linkReady = true →
    (7 < index.toNat →
      exec (.readProfile index filler) s =
        .next (s.answered (.readProfile index filler) .invalid ([0x10#8, index] ++ List.replicate 17 0#8))) ∧
    (∀ i : Fin 8, i.val = index.toNat →
      exec (.readProfile index filler) s = .next (s.answered (.readProfile index filler) .ok
        ([0#8, index] ++ profileBytes (s.profiles[i]).raw ++
          bytes3 (topLevel (s.profiles[i]).base (s.profiles[i]).cruise (s.profiles[i]).ramp)))) ∧
    (∀ (r : RawProfile) (t : State), exec (.writeProfile index r filler) s = .next t → t.link.slot.status = .ok →
      ∃ top, ∀ filler', exec (.readProfile index filler') t = .next (t.answered (.readProfile index filler') .ok
        ([0#8, index] ++ profileBytes r ++ bytes3 top)))

/-- What fails each field of a SET SETTINGS (the table of R186, checks 1 to 6). -/
def settingsFieldFails (r : RawSettings) : FieldCode → Bool
  | .emergencyStyle => 1 < r.emergencyStyle.toNat
  | .polarityA => 1 < r.polarityA.toNat
  | .polarityB => 1 < r.polarityB.toNat
  | .threshold => r.threshold = 0#8 ∨ 128 < r.threshold.toNat
  | .groupOrder => 5 < r.groupOrder.toNat
  | .axisOrder => 1 < r.axisOrder.toNat
  | _ => false

/-- SET SETTINGS is checked in the order of R186: INVALID with the field, BUSY where a polarity would change under a current move, and
otherwise all eight fields are replaced and the reply repeats the nine bytes sent. GET SETTINGS reports the fields as they stand and
changes nothing (R188). The direction output of a running part is high for + under NORMAL and for − under INVERTED, and low for the
others (R56, R57). -/
def Obligations.SettingsAreSetAndReported : Prop :=
  [FieldCode.emergencyStyle, .polarityA, .polarityB, .threshold, .groupOrder, .axisOrder].map FieldCode.code =
    [0x38#8, 0x39#8, 0x3A#8, 0x3B#8, 0x3C#8, 0x3D#8] ∧
  (∀ (s : State) (x : Axis) (polarity : Polarity), s.power = .running →
    polarity = (match x with | .A => s.settings.polarityA | .B => s.settings.polarityB) →
    (s.directionHigh x = true ↔
      ((s.axis x).lastDirection = .plus ∧ polarity = .normal) ∨ ((s.axis x).lastDirection = .minus ∧ polarity = .inverted))) ∧
  ∀ (s : State) (r : RawSettings) (filler : List Byte), s.linkReady = true →
    exec (.getSettings filler) s = .next (s.answered (.getSettings filler) .ok (settingsBytes s.settings.raw)) ∧
    match [FieldCode.emergencyStyle, .polarityA, .polarityB, .threshold, .groupOrder, .axisOrder].find? (settingsFieldFails r) with
    | some f => exec (.setSettings r filler) s =
      .next (s.answered (.setSettings r filler) .invalid (f.code :: settingsBytes s.settings.raw))
    | none =>
      if (r.polarityA ≠ s.settings.polarityA.code ∧ s.a.slot ≠ none) ∨ (r.polarityB ≠ s.settings.polarityB.code ∧ s.b.slot ≠ none) then
        exec (.setSettings r filler) s = .next (s.answered (.setSettings r filler) .busy (0#8 :: settingsBytes s.settings.raw))
      else ∃ c : Settings, c.raw = r ∧ c.emergencyStyle = (if r.emergencyStyle = 0#8 then .immediate else .ramped) ∧
        c.armLimit = r.armLimit ∧ c.polarityA = (if r.polarityA = 0#8 then .normal else .inverted) ∧
        c.polarityB = (if r.polarityB = 0#8 then .normal else .inverted) ∧ c.threshold = r.threshold ∧ c.enableMask = r.enableMask ∧
        c.groupOrder.code = r.groupOrder ∧ c.axisFirst = (if r.axisOrder = 0#8 then .A else .B) ∧
        exec (.setSettings r filler) s = .next (State.answered { s with settings := c } (.setSettings r filler) .ok (0#8 :: settingsBytes r))

/-! ### The move queues -/

/-- A selector byte that names neither A nor B alone (R193). -/
def namesNoAxis (selector : Byte) : Prop := selector ≠ 1#8 ∧ selector ≠ 2#8

/-- A selector byte or axis set that names neither A, B nor both (R193). -/
def namesNoAxes (selector : Byte) : Prop := selector ≠ 1#8 ∧ selector ≠ 2#8 ∧ selector ≠ 3#8

/-- QUEUE MOVES is all or none: a bad selector, then the first record that fails, then the room decide a refusal that changes no queue;
else the records are appended in frame order (R9 to R12). -/
def Obligations.QueueMovesIsAllOrNone : Prop :=
  ∀ (s : State) (moves : List RawMove) (filler : List Byte), s.linkReady = true → 1 ≤ moves.length → moves.length ≤ 4 →
    (∀ sel, namesNoAxis sel → exec (.queueMoves sel moves filler) s =
      .next (s.answered (.queueMoves sel moves filler) .invalid [0#8, 1#8, 0#8])) ∧
    ∀ x : Axis,
      (∀ pre r post f, moves = pre ++ r :: post → (∀ p ∈ pre, ∃ m, checkMove p = .ok m) → checkMove r = .error f →
        exec (.queueMoves x.selector moves filler) s = .next (s.answered (.queueMoves x.selector moves filler) .invalid
          [byteOf (pre.length + 1), f.code, byteOf (s.axis x).queue.length])) ∧
      (∀ ms, List.Forall₂ (fun r m => checkMove r = .ok m) moves ms →
        exec (.queueMoves x.selector moves filler) s = .next
          (if 32 < (s.axis x).queue.length + moves.length then
            s.answered (.queueMoves x.selector moves filler) .full [0#8, 0#8, byteOf (s.axis x).queue.length]
          else (s.onAxis x (fun u => { u with queue := u.queue ++ ms })).answered (.queueMoves x.selector moves filler) .ok
            [0#8, 0#8, byteOf ((s.axis x).queue.length + moves.length)]))

/-- A flush of one axis: an empty queue changes nothing; else the queue is emptied, a BLOCKED axis leaves the wait list and is IDLE, and
then the FLUSHED record asks for its ordinary slot. FLUSH QUEUE flushes the named queues, A's first, and reports the records removed
from each (R16 to R18). That the two counts of a bad selector are 0 is the model's reading of R204 (log 10). -/
def Obligations.FlushEmptiesTheNamedQueues : Prop :=
  (∀ (s : State) (x : Axis) (cause : Cause),
    ((s.axis x).queue = [] → s.flushQueue x cause = s) ∧
    ∀ (m last : Move) (rest : List Move), (s.axis x).queue = m :: rest → (m :: rest).getLast? = some last →
      s.flushQueue x cause =
        (if (s.axis x).state = .blocked then
            State.onAxis { s with journal := { s.journal with waitList := s.journal.waitList.filter (· != x) } } x
              (fun u => { u with queue := [], state := .idle })
          else s.onAxis x (fun u => { u with queue := [] })).offerRecord
          ⟨.flushed, some x, false, none, cause, byteOf (rest.length + 1), 0#32, (s.axis x).position, some (m.tag, last.tag)⟩) ∧
  ∀ (s : State) (filler : List Byte), s.linkReady = true →
    (∀ sel, namesNoAxes sel → exec (.flushQueue sel filler) s = .next (s.answered (.flushQueue sel filler) .invalid [1#8, 0#8, 0#8])) ∧
    exec (.flushQueue 1#8 filler) s = .next ((s.flushQueue .A .none).answered (.flushQueue 1#8 filler) .ok [0#8,
      byteOf s.a.queue.length, 0#8]) ∧
    exec (.flushQueue 2#8 filler) s = .next ((s.flushQueue .B .none).answered (.flushQueue 2#8 filler) .ok [0#8, 0#8,
      byteOf s.b.queue.length]) ∧
    exec (.flushQueue 3#8 filler) s = .next (((s.flushQueue .A .none).flushQueue .B .none).answered (.flushQueue 3#8 filler) .ok
      [0#8, byteOf s.a.queue.length, byteOf s.b.queue.length])

/-! ### The journal's claims -/

/-- The admission rule of R142, with what each answer does: with held plus reserved at 125 or less an ordinary record is written (it
takes the counter's number and the place after the newest, held rises and meets the threshold, and the check code follows) and a
reservation is granted; at 126 or more the record is dropped and counted, and the reservation refused (R139, R143, R144, R157, R158). -/
def Obligations.ClaimsAreJudgedAt126 : Prop :=
  ∀ s : State,
    (∀ e, s.writeRecord e =
      { State.seal { s with
          journal := { s.journal with records := s.journal.records ++ [⟨s.journal.seq, e⟩], seq := s.journal.seq + 1#16 } } with
        events := if s.settings.threshold.toNat ≤ s.journal.records.length + 1 then s.events ||| 8#8 else s.events }) ∧
    (s.journal.records.length + s.journal.reserved ≤ 125 →
      (∀ e, s.offerRecord e = s.writeRecord e) ∧
      ∀ x m rest, (s.axis x).state = .idle → (s.axis x).queue = m :: rest →
        s.attemptAdmission x = s.admitHead x ∧ ((s.admitHead x).axis x).queue = rest) ∧
    (126 ≤ s.journal.records.length + s.journal.reserved →
      (∀ e, s.offerRecord e =
        { State.seal { s with journal := { s.journal with lost := min (s.journal.lost + 1) 65535 } } with
          events := if s.journal.lost = 0 then s.events ||| 4#8 else s.events }) ∧
      ∀ x m rest, (s.axis x).state = .idle → (s.axis x).queue = m :: rest →
        s.attemptAdmission x =
          State.onAxis { s with journal := { s.journal with waitList := s.journal.waitList ++ [x] } } x
            (fun u => { u with state := .blocked }))

/-! ### Endings and stops -/

/-- The part as a move's ending leaves its records: the reservation is converted into the terminal record (R65, R141). -/
def terminalWritten (s : State) (x : Axis) (sl : Slot) (kind : RecordKind) (cause : Cause) (halted : Bool) : State :=
  State.writeRecord { s with journal := { s.journal with reserved := s.journal.reserved - 1 } }
    ⟨kind, some x, halted, some sl.move.tag, cause, 0#8, sl.delivered, (s.axis x).position,
      sl.afterCapture.map (fun n => (n.extractLsb' 16 16, n.extractLsb' 0 16))⟩

/-- A move ends: its terminal record, then an empty slot, then by the after-action IDLE with AXIS_DRAINED on an empty queue, HALTED, or
HALTED with the queue flushed; AXIS_HALTED follows the records (R65 to R68, R96, R109). -/
def Obligations.EndingWritesItsRecordAndMovesOn : Prop :=
  ∀ (s : State) (x : Axis) (sl : Slot) (kind : RecordKind) (cause : Cause), (s.axis x).slot = some sl →
    (s.endMove x kind cause .proceed =
      (let t := (terminalWritten s x sl kind cause false).onAxis x (fun u => { u with slot := none, state := .idle })
       if (s.axis x).queue = [] then t.setEvent (drainedEvent x) else t)) ∧
    s.endMove x kind cause .halt =
      ((terminalWritten s x sl kind cause true).onAxis x (fun u => { u with slot := none, state := .halted })).setEvent
        (haltedEvent x) ∧
    s.endMove x kind cause .flush =
      (((terminalWritten s x sl kind cause true).onAxis x (fun u => { u with slot := none, state := .halted })).flushQueue x
        .hostStop).setEvent (haltedEvent x)

/-- The kind a stop's record has: DONE for HOME_FOUND, STOPPED for the others (R87). -/
def stopRecordKind (cause : Cause) : RecordKind := if cause = .homeFound then .done else .stopped

/-- Any stop taken by a current move: at once where the move is ARMED or a dwell, at level 0, or the style IMMEDIATE; else a descent one
level lower; and a merge into the higher-ranked cause and the stronger after-action where a descent is under way (R33, R85, R86, R91 to
R94, R100 to R103). -/
def Obligations.StopsActByStateStyleAndLevel : Prop :=
  (Cause.hostStop.rank < Cause.homeFound.rank ∧ Cause.homeFound.rank < Cause.limit.rank ∧ Cause.limit.rank < Cause.emergency.rank ∧
    AfterAction.proceed.rank < AfterAction.halt.rank ∧ AfterAction.halt.rank < AfterAction.flush.rank) ∧
  ∀ (s : State) (x : Axis) (sl : Slot) (r : PendingStop), (s.axis x).slot = some sl →
    ((s.axis x).state = .armed → s.takeStop x r = s.endMove x (stopRecordKind r.cause) r.cause r.after) ∧
    ((s.axis x).state = .running → sl.phase = .wait ∨ r.style = .immediate ∨ sl.level = 0 →
      s.takeStop x r = s.endMove x (stopRecordKind r.cause) r.cause r.after) ∧
    (∀ n, (s.axis x).state = .running → sl.phase.pulsing = true → r.style = .ramped → sl.level = n + 1 →
      s.takeStop x r = s.onAxis x (fun u => { u with
        state := .stopping
        slot := some { sl with
          phase := .stopping
          level := n
          stop := some r
          interval := sl.interval.map (fun _ => intervalOf (min (sl.snap.base + sl.snap.ramp * n) sl.snap.ceiling)) } })) ∧
    (∀ p, (s.axis x).state = .stopping → sl.stop = some p →
      ∃ cause after, (cause = p.cause ∨ cause = r.cause) ∧ p.cause.rank ≤ cause.rank ∧ r.cause.rank ≤ cause.rank ∧
        (r.cause.rank = p.cause.rank → cause = p.cause) ∧
        (after = p.after ∨ after = r.after) ∧ p.after.rank ≤ after.rank ∧ r.after.rank ≤ after.rank ∧
        s.takeStop x r =
          if r.style = .immediate then s.endMove x (stopRecordKind cause) cause after
          else s.onAxis x (fun u => { u with slot := some { sl with stop := some ⟨p.style, cause, after⟩ } }))

/-- What the host's stop does on one axis: the current move takes it; an axis without one halts under HALT and FLUSH with a HALT record
offered, a BLOCKED axis leaving the wait list first; a HALTED axis is flushed at most (R89 to R95). -/
def Obligations.HostStopActsOnWhatTheAxisHolds : Prop :=
  ∀ (s : State) (x : Axis) (style : Style),
    (∀ after, (s.axis x).state.holdsMove = true → s.hostStop x style after = s.takeStop x ⟨style, .hostStop, after⟩) ∧
    ((s.axis x).state.holdsMove = false → s.hostStop x style .proceed = s) ∧
    (∀ h : Entry, h = ⟨.halt, some x, true, none, .hostStop, 0#8, 0#32, (s.axis x).position, none⟩ →
      ((s.axis x).state = .idle →
        s.hostStop x style .halt = ((s.onAxis x (fun u => { u with state := .halted })).offerRecord h).setEvent (haltedEvent x) ∧
        s.hostStop x style .flush =
          (((s.onAxis x (fun u => { u with state := .halted })).offerRecord h).flushQueue x .hostStop).setEvent (haltedEvent x)) ∧
      ((s.axis x).state = .blocked →
        s.hostStop x style .halt = (((s.leaveWaitList x).onAxis x (fun u => { u with state := .halted })).offerRecord h).setEvent
          (haltedEvent x) ∧
        s.hostStop x style .flush = ((((s.leaveWaitList x).onAxis x (fun u => { u with state := .halted })).offerRecord h).flushQueue
          x .hostStop).setEvent (haltedEvent x))) ∧
    ((s.axis x).state = .halted → s.hostStop x style .halt = s ∧ s.hostStop x style .flush = s.flushQueue x .hostStop)

/-- STOP AXIS: selector, style and after-action are checked in that order and a refusal changes nothing; else the named axes take the
stop, A first, and the reply carries both states after it (R88). -/
def Obligations.StopAxisStopsTheNamedAxes : Prop :=
  [0#8, 1#8, 2#8].map afterOfCode = [some .proceed, some .halt, some .flush] ∧
  ∀ (s : State) (style after : Byte) (filler : List Byte), s.linkReady = true →
    (∀ sel, namesNoAxes sel →
      exec (.stopAxis sel style after filler) s =
        .next (s.answered (.stopAxis sel style after filler) .invalid [0x01#8, s.a.state.code, s.b.state.code])) ∧
    (∀ sel, ¬namesNoAxes sel → 1 < style.toNat →
      exec (.stopAxis sel style after filler) s =
        .next (s.answered (.stopAxis sel style after filler) .invalid [0x18#8, s.a.state.code, s.b.state.code])) ∧
    (∀ sel, ¬namesNoAxes sel → style.toNat ≤ 1 → 2 < after.toNat →
      exec (.stopAxis sel style after filler) s =
        .next (s.answered (.stopAxis sel style after filler) .invalid [0x19#8, s.a.state.code, s.b.state.code])) ∧
    ∀ st aa, styleOfCode style = some st → afterOfCode after = some aa → ∀ sel t,
      (sel = 1#8 ∧ t = s.hostStop .A st aa) ∨ (sel = 2#8 ∧ t = s.hostStop .B st aa) ∨
        (sel = 3#8 ∧ t = (s.hostStop .A st aa).hostStop .B st aa) →
      exec (.stopAxis sel style after filler) s =
        .next (t.answered (.stopAxis sel style after filler) .ok [0#8, t.a.state.code, t.b.state.code])

/-- RESUME AXIS: a bad selector, the emergency line, a named axis that is not HALTED refuse it in that order with nothing changed; else
each named axis is IDLE (R110). -/
def Obligations.ResumeAxisReturnsToIdle : Prop :=
  ∀ (s : State) (filler : List Byte), s.linkReady = true →
    (∀ sel, namesNoAxes sel →
      exec (.resumeAxis sel filler) s = .next (s.answered (.resumeAxis sel filler) .invalid [1#8, s.a.state.code, s.b.state.code])) ∧
    ∀ sel, ¬namesNoAxes sel →
      exec (.resumeAxis sel filler) s =
        if s.pins.emergency = true then
          .next (s.answered (.resumeAxis sel filler) .emergency [0#8, s.a.state.code, s.b.state.code])
        else if (sel ≠ 2#8 ∧ s.a.state ≠ .halted) ∨ (sel ≠ 1#8 ∧ s.b.state ≠ .halted) then
          .next (s.answered (.resumeAxis sel filler) .busy [0#8, s.a.state.code, s.b.state.code])
        else
          .next (State.answered
            { s with
              a := if sel = 2#8 then s.a else { s.a with state := .idle }
              b := if sel = 1#8 then s.b else { s.b with state := .idle } }
            (.resumeAxis sel filler) .ok
            [0#8, if sel = 2#8 then s.a.state.code else 0#8, if sel = 1#8 then s.b.state.code else 0#8])

/-! ### RETUNE and SET POSITION -/

/-- The eleven bytes of a RETUNE reply after its field code, for an axis as it stands (R35, 12.5). -/
def retuneItems (u : AxisUnit) : List Byte :=
  u.state.code ::
    match u.slot with
    | none => List.replicate 10 0#8
    | some sl => sl.phase.code :: bytes3 sl.level ++ bytes3 sl.snap.top ++ bytes3 sl.snap.ceiling

/-- RETUNE's four refusals in order, each with nothing changed (R35); a bad selector's items are 0 (log 10). -/
def Obligations.RetuneRefusals : Prop :=
  ∀ (s : State) (rate : Word) (filler : List Byte), s.linkReady = true →
    (∀ sel, namesNoAxis sel →
      exec (.retune sel rate filler) s = .next (s.answered (.retune sel rate filler) .invalid (1#8 :: List.replicate 11 0#8))) ∧
    ∀ x : Axis,
      (rate = 0#32 ∨ 200000 < rate.toNat →
        exec (.retune x.selector rate filler) s =
          .next (s.answered (.retune x.selector rate filler) .invalid (0x12#8 :: retuneItems (s.axis x)))) ∧
      (rate ≠ 0#32 → rate.toNat ≤ 200000 →
        ((s.axis x).slot = none ∨ (s.axis x).state = .stopping ∨
            (∃ sl, (s.axis x).slot = some sl ∧ (s.axis x).state = .running ∧
              (sl.phase = .decel ∨ sl.phase = .settle ∨ sl.phase = .wait)) →
          exec (.retune x.selector rate filler) s =
            .next (s.answered (.retune x.selector rate filler) .busy (0#8 :: retuneItems (s.axis x)))) ∧
        ∀ sl, (s.axis x).slot = some sl →
          ((s.axis x).state = .armed ∨ ((s.axis x).state = .running ∧ (sl.phase = .accel ∨ sl.phase = .cruise ∨ sl.phase = .slowing))) →
          rate.toNat < sl.snap.base →
          exec (.retune x.selector rate filler) s =
            .next (s.answered (.retune x.selector rate filler) .invalid (0x12#8 :: retuneItems (s.axis x))))

/-- The slot a RETUNE of a running move leaves: the new top level against the level in force (the table of R37), a running interval
taking the length of a rate that changes at once (R54). -/
def retunedSlot (sl : Slot) (c : Nat) : Slot :=
  if sl.level < topLevel sl.snap.base c sl.snap.ramp then
    { sl with
      phase := .accel
      snap := { sl.snap with cruise := c, top := topLevel sl.snap.base c sl.snap.ramp, ceiling := c }
      interval := sl.interval.map (fun _ => intervalOf (min (sl.snap.base + sl.snap.ramp * sl.level) c)) }
  else if topLevel sl.snap.base c sl.snap.ramp < sl.level then
    { sl with
      phase := .slowing
      snap := { sl.snap with cruise := c, top := topLevel sl.snap.base c sl.snap.ramp } }
  else
    { sl with
      phase := .cruise
      snap := { sl.snap with cruise := c, top := topLevel sl.snap.base c sl.snap.ramp, ceiling := c }
      interval := sl.interval.map (fun _ => intervalOf (min (sl.snap.base + sl.snap.ramp * sl.level) c)) }

/-- RETUNE of an ARMED move replaces cruise rate, top level and ceiling; of a move in ACCEL,
  CRUISE or SLOWING it also sets the phase and
the ceiling against the level in force; nothing else changes (R35 to R37). -/
def Obligations.RetuneChangesTheSnapshot : Prop :=
  ∀ (s : State) (x : Axis) (rate : Word) (sl sl' : Slot) (filler : List Byte), s.linkReady = true → (s.axis x).slot = some sl →
    rate.toNat ≤ 200000 → sl.snap.base ≤ rate.toNat → rate ≠ 0#32 →
    ((s.axis x).state = .armed ∧
        sl' = { sl with snap := { sl.snap with
          cruise := rate.toNat
          top := topLevel sl.snap.base rate.toNat sl.snap.ramp
          ceiling := rate.toNat } }) ∨
      ((s.axis x).state = .running ∧ (sl.phase = .accel ∨ sl.phase = .cruise ∨ sl.phase = .slowing) ∧
        sl' = retunedSlot sl rate.toNat) →
    ∀ t, t = s.onAxis x (fun u => { u with slot := some sl' }) →
      exec (.retune x.selector rate filler) s = .next (t.answered (.retune x.selector rate filler) .ok (0#8 :: retuneItems (t.axis x)))

/-- SET POSITION: refused for a bad selector and for an axis that is ARMED, RUNNING or STOPPING; else the counter takes the value, the
check code follows, and nothing else changes (R59). That the items of a bad selector are 0 is the model's reading of R204 (log 10). -/
def Obligations.SetPositionSetsTheCounter : Prop :=
  ∀ (s : State) (value : Word) (filler : List Byte), s.linkReady = true →
    (∀ sel, namesNoAxis sel →
      exec (.setPosition sel value filler) s =
        .next (s.answered (.setPosition sel value filler) .invalid (1#8 :: List.replicate 5 0#8))) ∧
    ∀ x : Axis,
      ((s.axis x).state = .armed ∨ (s.axis x).state = .running ∨ (s.axis x).state = .stopping →
        exec (.setPosition x.selector value filler) s = .next (s.answered (.setPosition x.selector value filler) .busy
          ([0#8, (s.axis x).state.code] ++ bytes4 (s.axis x).position))) ∧
      ((s.axis x).state = .idle ∨ (s.axis x).state = .blocked ∨ (s.axis x).state = .halted →
        exec (.setPosition x.selector value filler) s =
          .next (State.answered (State.seal (s.onAxis x (fun u => { u with position := value }))) (.setPosition x.selector value filler) .ok
            ([0#8, (s.axis x).state.code] ++ bytes4 value)))

/-! ### Stations -/

/-- The eleven bytes of a station reply after its field code (12.5). -/
def stationItems (number : Byte) (st : Station) : List Byte :=
  number ::
    ((match st.a with | none => List.replicate 5 0#8 | some p => 1#8 :: bytes4 p) ++
      (match st.b with | none => List.replicate 5 0#8 | some p => 1#8 :: bytes4 p))

/-- What fails a field of a STATION STORE after its number (R125, checks 2 to 5; the presence codes of 12.7). -/
def storeFieldFails (presenceA : Byte) (valueA : Word) (presenceB : Byte) (valueB : Word) : FieldCode → Bool
  | .presenceA => 2 < presenceA.toNat
  | .valueA => presenceA ≠ 1#8 ∧ valueA ≠ 0#32
  | .presenceB => 2 < presenceB.toNat
  | .valueB => presenceB ≠ 1#8 ∧ valueB ≠ 0#32
  | _ => false

/-- The position a presence leaves: PRESENT the value, ABSENT none, LEAVE the one held (R125). -/
def storedPosition (presence : Byte) (value : Word) (held : Option Word) : Option Word :=
  if presence = 1#8 then some value else if presence = 0#8 then none else held

/-- STATION STORE checks its fields in order and changes both positions together or nothing (R125); its field codes after the number's
are those of 12.7. -/
def Obligations.StationStoreChangesBothPositions : Prop :=
  [FieldCode.presenceA, .valueA, .presenceB, .valueB].map FieldCode.code = [0x29#8, 0x2A#8, 0x2B#8, 0x2C#8] ∧
  ∀ (s : State) (n pa pb : Byte) (va vb : Word) (filler : List Byte), s.linkReady = true →
    (31 < n.toNat → exec (.stationStore n pa va pb vb filler) s =
      .next (s.answered (.stationStore n pa va pb vb filler) .invalid (0x28#8 :: stationItems n ⟨none, none⟩))) ∧
    ∀ k : Fin 32, k.val = n.toNat →
      match [FieldCode.presenceA, .valueA, .presenceB, .valueB].find? (storeFieldFails pa va pb vb) with
      | some f => exec (.stationStore n pa va pb vb filler) s =
          .next (s.answered (.stationStore n pa va pb vb filler) .invalid (f.code :: stationItems n s.stations[k]))
      | none => ∀ st : Station, st = ⟨storedPosition pa va s.stations[k].a, storedPosition pb vb s.stations[k].b⟩ →
          exec (.stationStore n pa va pb vb filler) s =
            .next (State.answered (State.seal { s with stations := s.stations.set k st }) (.stationStore n pa va pb vb filler) .ok
              (0#8 :: stationItems n st))

/-- STATION TEACH makes the named positions present with their axes' counters, both of one instant; STATION CLEAR makes them absent;
STATION READ changes nothing; a bad number or axis set is refused with nothing changed (R126, R128, R129). That the reply of a number
above 31 carries the number as received and both positions absent is the model's reading (log 10). -/
def Obligations.StationsAreTaughtClearedAndRead : Prop :=
  ∀ (s : State) (n : Byte) (filler : List Byte), s.linkReady = true →
    (31 < n.toNat →
      (∀ set, exec (.stationTeach n set filler) s =
        .next (s.answered (.stationTeach n set filler) .invalid (0x28#8 :: stationItems n ⟨none, none⟩))) ∧
      (∀ set, exec (.stationClear n set filler) s =
        .next (s.answered (.stationClear n set filler) .invalid (0x28#8 :: stationItems n ⟨none, none⟩))) ∧
      exec (.stationRead n filler) s = .next (s.answered (.stationRead n filler) .invalid (0x28#8 :: stationItems n ⟨none, none⟩))) ∧
    ∀ k : Fin 32, k.val = n.toNat →
      exec (.stationRead n filler) s = .next (s.answered (.stationRead n filler) .ok (0#8 :: stationItems n s.stations[k])) ∧
      (∀ set, namesNoAxes set →
        exec (.stationTeach n set filler) s =
          .next (s.answered (.stationTeach n set filler) .invalid (1#8 :: stationItems n s.stations[k])) ∧
        exec (.stationClear n set filler) s =
          .next (s.answered (.stationClear n set filler) .invalid (1#8 :: stationItems n s.stations[k]))) ∧
      ∀ set, ¬namesNoAxes set →
        (∀ st : Station,
          st = ⟨if set = 2#8 then s.stations[k].a else some s.a.position, if set = 1#8 then s.stations[k].b else some s.b.position⟩ →
          exec (.stationTeach n set filler) s =
            .next (State.answered (State.seal { s with stations := s.stations.set k st }) (.stationTeach n set filler) .ok
              (0#8 :: stationItems n st))) ∧
        (∀ st : Station,
          st = ⟨if set = 2#8 then s.stations[k].a else none, if set = 1#8 then s.stations[k].b else none⟩ →
          exec (.stationClear n set filler) s =
            .next (State.answered (State.seal { s with stations := s.stations.set k st }) (.stationClear n set filler) .ok
              (0#8 :: stationItems n st)))

/-! ### Marks -/

/-- MARK ADD's five refusals in order, each with nothing changed; else the mark joins the table, which stays in ascending id (R114,
R116). -/
def Obligations.MarkAddJoinsTheTable : Prop :=
  [0#8, 1#8, 2#8, 3#8].map senseOfCode = [none, some .up, some .down, some .either] ∧
  (∀ b : Byte, 3 < b.toNat → senseOfCode b = none) ∧
  ∀ (s : State) (id : Byte) (position : Word) (sense : Byte) (filler : List Byte), s.linkReady = true →
    (∀ sel, namesNoAxis sel →
      exec (.markAdd sel id position sense filler) s =
        .next (s.answered (.markAdd sel id position sense filler) .invalid [0x01#8, 0#8])) ∧
    ∀ (x : Axis) (c : Instr), c = .markAdd x.selector id position sense filler →
      (id = 0#8 → exec c s = .next (s.answered c .invalid [0x20#8, byteOf (s.axis x).marks.length])) ∧
      (id ≠ 0#8 → senseOfCode sense = none → exec c s = .next (s.answered c .invalid [0x21#8, byteOf (s.axis x).marks.length])) ∧
      ∀ se, id ≠ 0#8 → senseOfCode sense = some se →
        ((∃ m ∈ (s.axis x).marks, m.id = id) →
          exec c s = .next (s.answered c .duplicate [0#8, byteOf (s.axis x).marks.length])) ∧
        ((∀ m ∈ (s.axis x).marks, m.id ≠ id) →
          (8 ≤ (s.axis x).marks.length → exec c s = .next (s.answered c .full [0#8, byteOf (s.axis x).marks.length])) ∧
          ((s.axis x).marks.length < 8 → ∃ ms : List Mark, ms.Perm (⟨id, position, se⟩ :: (s.axis x).marks) ∧
            (marksAscend (s.axis x).marks → marksAscend ms) ∧
            exec c s = .next ((s.onAxis x (fun u => { u with marks := ms })).answered c .ok
              [0#8, byteOf ((s.axis x).marks.length + 1)])))

/-- MARK REMOVE takes the mark with the id out of the table and reports its position and sense; MARK LIST reports the table; refusals
change nothing (R115, R116). -/
def Obligations.MarksAreRemovedAndListed : Prop :=
  ∀ (s : State) (id : Byte) (filler : List Byte), s.linkReady = true →
    (∀ sel, namesNoAxis sel →
      exec (.markRemove sel id filler) s = .next (s.answered (.markRemove sel id filler) .invalid (1#8 :: List.replicate 6 0#8)) ∧
      exec (.markList sel filler) s = .next (s.answered (.markList sel filler) .invalid [1#8, 0#8])) ∧
    ∀ x : Axis,
      exec (.markList x.selector filler) s = .next (s.answered (.markList x.selector filler) .ok
        ([0#8, byteOf (s.axis x).marks.length] ++
          (s.axis x).marks.flatMap (fun m => m.id :: bytes4 m.position ++ [m.sense.code]))) ∧
      ∀ c : Instr, c = .markRemove x.selector id filler →
        (id = 0#8 → exec c s =
          .next (s.answered c .invalid ([0x20#8, byteOf (s.axis x).marks.length] ++ List.replicate 5 0#8))) ∧
        (id ≠ 0#8 → (∀ m ∈ (s.axis x).marks, m.id ≠ id) → exec c s =
          .next (s.answered c .notFound ([0#8, byteOf (s.axis x).marks.length] ++ List.replicate 5 0#8))) ∧
        ∀ pre m post, id ≠ 0#8 → (s.axis x).marks = pre ++ m :: post → m.id = id → (∀ k ∈ pre ++ post, k.id ≠ id) →
          exec c s = .next ((s.onAxis x (fun u => { u with marks := pre ++ post })).answered c .ok
            ([0#8, byteOf (pre ++ post).length] ++ bytes4 m.position ++ [m.sense.code]))

/-! ### The journal's requests -/

/-- The code of a record kind (12.7). -/
def recordKindByte : RecordKind → Byte
  | .done => 1#8 | .stopped => 2#8 | .refused => 3#8 | .interrupted => 4#8 | .flushed => 5#8 | .halt => 6#8 | .mark => 7#8
  | .gap => 8#8 | .restart => 9#8

/-- The code of a cause (12.7). -/
def causeByte : Cause → Byte
  | .none => 0#8 | .hostStop => 1#8 | .emergency => 2#8 | .limit => 3#8 | .homeFound => 4#8 | .homeNotFound => 5#8 | .range => 6#8
  | .noStation => 7#8 | .limitActive => 8#8 | .armTimeout => 9#8 | .pairMismatch => 10#8 | .pairBroken => 11#8 | .reset => 12#8

/-- The bytes of a number, most significant first (R203). -/
def numberBytes : Nat → Nat → List Byte
  | 0, _ => []
  | k + 1, n => numberBytes k (n / 256) ++ [BitVec.ofNat 8 n]

/-- READ JOURNAL changes nothing: a count of 0 or above 3 is INVALID; a start in the held window gets the records from it on, up to the
count or the newest; the counter itself gets no record; any other start is NOT_FOUND (R153). Each record is sent as the 20 bytes of 12.4,
its fields most significant byte first (R203),
  its kind and cause by the codes of 12.7. Where the records carry consecutive numbers up to
the counter, the window's two numbers and the held count agree, the window is exactly the numbers held, and each record carries the
number of its place (R134, R135). -/
def Obligations.ReadJournalReturnsHeldRecords : Prop :=
  (∀ (s : State) (start : Half) (k : Byte) (c : Instr) (filler : List Byte), s.linkReady = true → c = .readJournal start k filler →
    (k = 0#8 ∨ 3 < k.toNat → exec c s = .next (s.answered c .invalid
      ([0#8, 0x30#8, byteOf s.journal.records.length] ++ bytes2 s.journal.oldest ++ bytes2 s.journal.newest))) ∧
    ∀ d, d = (start - s.journal.oldest).toNat → k ≠ 0#8 → k.toNat ≤ 3 →
      (d < s.journal.records.length → exec c s = .next (s.answered c .ok
        (byteOf (min k.toNat (s.journal.records.length - d)) :: ((s.journal.records.drop d).take k.toNat).flatMap Record.bytes))) ∧
      (s.journal.records.length ≤ d → start = s.journal.seq → exec c s = .next (s.answered c .ok [0#8])) ∧
      (s.journal.records.length ≤ d → start ≠ s.journal.seq → exec c s = .next (s.answered c .notFound
        ([0#8, 0#8, byteOf s.journal.records.length] ++ bytes2 s.journal.oldest ++ bytes2 s.journal.newest)))) ∧
  (∀ (r : Record) (b : Byte), r.bytes[3]? = some b →
    r.bytes = numberBytes 2 r.seq.toNat ++ [recordKindByte r.entry.kind, b] ++
      (match r.entry.tag with | none => [0#8, 0#8] | some tag => numberBytes 2 tag.toNat) ++ [causeByte r.entry.cause, r.entry.small] ++
      numberBytes 4 r.entry.pulses.toNat ++ numberBytes 4 r.entry.position.toNat ++
      (match r.entry.extra with
        | none => [0#8, 0#8, 0#8, 0#8]
        | some (first, second) => numberBytes 2 first.toNat ++ numberBytes 2 second.toNat) ∧
    (b.getLsbD 7 = r.entry.halted ∧ b.getLsbD 6 = r.entry.tag.isNone ∧ b.getLsbD 5 = r.entry.extra.isNone ∧
      b.extractLsb' 2 3 = 0#3 ∧
      b.extractLsb' 0 2 = (match r.entry.axis with | none => 0#2 | some .A => 1#2 | some .B => 2#2))) ∧
  (∀ (h : Half) (w : Word) (n : Nat), bytes2 h = numberBytes 2 h.toNat ∧ bytes3 n = numberBytes 3 n ∧
    bytes4 w = numberBytes 4 w.toNat) ∧
  ∀ j : Journal, j.SequenceLaw → j.records.length ≤ 128 →
    j.newest + 1#16 = j.seq ∧ BitVec.ofNat 16 j.records.length = j.newest - j.oldest + 1#16 ∧
    (∀ i r, j.records[i]? = some r → r.seq = j.oldest + BitVec.ofNat 16 i) ∧
    ∀ n : Half, (n - j.oldest).toNat < j.records.length ↔ ∃ r ∈ j.records, r.seq = n

/-- ACK JOURNAL: a number outside the held window is NOT_FOUND with nothing changed; else the records from the oldest through it go, the
check code follows, the freed-space service runs, and the reply shows the journal as the service left it (R155). -/
def Obligations.AckJournalRemovesAndServes : Prop :=
  ∀ (s : State) (a : Half) (d : Nat) (filler : List Byte), s.linkReady = true → d = (a - s.journal.oldest).toNat →
    ∀ items : Journal → List Byte,
      items = (fun j => [byteOf j.records.length, byteOf j.reserved] ++ bytes2 (BitVec.ofNat 16 j.lost) ++ bytes2 j.oldest ++
        bytes2 j.newest) →
      (s.journal.records.length ≤ d → exec (.ackJournal a filler) s =
        .next (s.answered (.ackJournal a filler) .notFound (items s.journal))) ∧
      (d < s.journal.records.length → ∀ t,
        t = (State.seal { s with journal := { s.journal with records := s.journal.records.drop (d + 1) } }).serveFreedSpace →
        exec (.ackJournal a filler) s = .next (t.answered (.ackJournal a filler) .ok (items t.journal)))

/-- The freed-space service: the GAP record first, then the waiting axes in order, each granted one leaving the list and admitting its
head; the first refusal ends it (R44, R146, R147). -/
def Obligations.FreedSpaceIsServedInOrder : Prop :=
  ∀ s : State,
    (s.journal.lost = 0 → s.journal.waitList = [] → s.serveFreedSpace = s) ∧
    (126 ≤ s.journal.records.length + s.journal.reserved → s.serveFreedSpace = s) ∧
    (0 < s.journal.lost → s.journal.records.length + s.journal.reserved ≤ 125 →
      s.serveFreedSpace = State.serveFreedSpace (State.writeRecord { s with journal := { s.journal with lost := 0 } }
        ⟨.gap, none, false, none, .none, 0#8, BitVec.ofNat 32 s.journal.lost, 0#32, none⟩)) ∧
    ∀ x rest, s.journal.lost = 0 → s.journal.waitList = x :: rest → s.journal.records.length + s.journal.reserved ≤ 125 →
      s.serveFreedSpace = State.serveFreedSpace (State.admitHead { s with journal := { s.journal with waitList := rest } } x)

/-! ### Events -/

/-- CLEAR EVENTS makes each named flag not pending and keeps the others, and its reply shows the flags after it (R200). The flags have
the bit numbers of 12.7, the halted and drained flags of each axis among them. -/
def Obligations.ClearEventsClearsTheNamedFlags : Prop :=
  [Event.restart, .linkError, .journalLost, .journalThreshold, haltedEvent .A, drainedEvent .A, haltedEvent .B, drainedEvent .B].map
    Event.bit = [0, 1, 2, 3, 4, 5, 6, 7] ∧
  [haltedEvent .A, drainedEvent .A, haltedEvent .B, drainedEvent .B] = [.aHalted, .aDrained, .bHalted, .bDrained] ∧
  ∀ (s : State) (flags : Byte) (filler : List Byte), s.linkReady = true → ∀ t, t = { s with events := s.events &&& ~~~flags } →
    exec (.clearEvents flags filler) s = .next (t.answered (.clearEvents flags filler) .ok
      [t.events, t.settings.enableMask, match t.leadingEvent with | none => 0#8 | some e => BitVec.ofNat 8 (e.bit + 1)]) ∧
    (∀ e : Event, t.isPending e = (s.isPending e && !flags.getLsbD e.bit)) ∧
    (t.irqLow = true ↔ t.power = .running ∧ ∃ e : Event, t.isPending e = true ∧ t.settings.enableMask.getLsbD e.bit = true)

/-- The flags of a group in their order, the given axis first (R198). -/
def groupFlags (first : Axis) : EventGroup → List Event
  | .system => [.restart, .linkError]
  | .journal => [.journalLost, .journalThreshold]
  | .axis => if first = .A then [.aHalted, .aDrained, .bHalted, .bDrained] else [.bHalted, .bDrained, .aHalted, .aDrained]

/-- The groups a group order code places, in order (12.7). -/
def codeGroups (code : Byte) : List EventGroup :=
  if code = 0#8 then [.system, .journal, .axis] else if code = 1#8 then [.system, .axis, .journal]
  else if code = 2#8 then [.journal, .system, .axis] else if code = 3#8 then [.journal, .axis, .system]
  else if code = 4#8 then [.axis, .system, .journal] else [.axis, .journal, .system]

/-- The leading event is the first flag both pending and enabled in the list the two orders of the settings make, and NONE where no such
flag is (R198); READ EVENTS changes nothing and reports the pending set, the enable mask and it (R199). -/
def Obligations.ReadEventsNamesTheLeadingEvent : Prop :=
  ∀ (s : State) (order : List Event) (raised : Event → Prop) (filler : List Byte),
    order = (codeGroups s.settings.groupOrder.code).flatMap (groupFlags s.settings.axisFirst) →
    (∀ e, raised e ↔ s.isPending e = true ∧ s.settings.enableMask.getLsbD e.bit = true) →
    (s.leadingEvent = none ↔ ∀ e, ¬raised e) ∧
    (∀ e, s.leadingEvent = some e ↔ raised e ∧ ∃ pre post, order = pre ++ e :: post ∧ ∀ e' ∈ pre, ¬raised e') ∧
    (s.linkReady = true → exec (.readEvents filler) s = .next (s.answered (.readEvents filler) .ok
      [s.events, s.settings.enableMask, match s.leadingEvent with | none => 0#8 | some e => BitVec.ofNat 8 (e.bit + 1)]))

/-- CLEAR COLD FLAG clears the flag, reports it clear and changes nothing else (R172). -/
def Obligations.ClearColdFlagClearsIt : Prop :=
  ∀ (s : State) (filler : List Byte), s.linkReady = true →
    exec (.clearColdFlag filler) s = .next (State.answered { s with coldFlag := false } (.clearColdFlag filler) .ok [0#8])

/-! ### Resets -/

/-- An axis as every reset leaves it, given the lines as they stand and its counter (R39). -/
def axisAfterReset (u : AxisUnit) (l : Lines) (position : Word) : AxisUnit :=
  ⟨if l.emergency then .halted else .idle, none, position, .plus, [], [], l, [], u.stepEdges⟩

/-- The link as every reset leaves it: a transaction already begun is ignored (R174, R184). -/
def linkAfterReset (l : Link) (reply : Reply) : Link :=
  ⟨if l.chipSelect = .high then .high else .ignored, ⟨[], 0⟩, reply, none⟩

/-- Cold initialisation leaves every register at the value of R168, the one RESTART record of its kind with number 1, and the input
pins, chip-select and the queue of commands as they are. POWER ON runs it with kind POWER_ON, at once or, with the reset line low, at
the line's rise (R161). The restart kinds have the codes of 12.7. -/
def Obligations.ColdInitialisationLeavesTheColdValues : Prop :=
  [RestartKind.powerOn, .retainFault, .pin, .soft].map RestartKind.code = [1#8, 2#8, 3#8, 4#8] ∧
  (∀ (s : State) (kind : RestartKind),
    s.coldInit kind = State.seal
      { power := .running
        resetLow := false
        pins := s.pins
        a := axisAfterReset s.a (s.pins.lines .A) 0#32
        b := axisAfterReset s.b (s.pins.lines .B) 0#32
        profiles := Vector.replicate 8 ⟨200, 2000, 20, 0, .immediate, .immediate⟩
        stations := Vector.replicate 32 ⟨none, none⟩
        journal := ⟨[⟨1#16, ⟨.restart, none, false, none, .none, kind.code, 1#32, 0#32, some (0#16, 0#16)⟩⟩], 2#16, 0, 0, []⟩
        check := s.check
        coldFlag := true
        events := 1#8
        settings := ⟨.immediate, 0#16, .normal, .normal, 1#8, 0xFF#8, .systemJournalAxis, .A⟩
        link := linkAfterReset s.link ⟨.restarted, 0#8, []⟩
        pending := s.pending }) ∧
  ∀ s : State,
    (s.resetLow = false → exec .powerOn s = .next (s.coldInit .powerOn)) ∧
    (s.resetLow = true → ∃ t, exec .powerOn s = .next t ∧ t.power = .heldPowerOn ∧
      exec (.pinResetRelease false) t = .next (s.coldInit .powerOn) ∧ exec (.pinResetRelease true) t = .next (s.coldInit .powerOn))

/-- Records numbered one after another (R134). -/
def numbered (n : Half) : List Entry → List Record
  | [] => []
  | e :: rest => ⟨n, e⟩ :: numbered (n + 1#16) rest

/-- The INTERRUPTED record of an axis's current move, if it has one (R170). -/
def interruptedEntries (x : Axis) (u : AxisUnit) : List Entry :=
  match u.slot with
  | none => []
  | some sl => [⟨.interrupted, some x, false, some sl.move.tag, .reset, 0#8, sl.delivered, u.position,
      sl.afterCapture.map (fun n => (n.extractLsb' 16 16, n.extractLsb' 0 16))⟩]

/-- Warm recovery: INTERRUPTED records, A's first, then the RESTART record appended below 128 held or merged into the newest at 128; the
rest of the retained set, the lost count and the cold flag kept; queues, marks, claims, settings, events, link and axes at their reset
values (R149, R150, R169, R170). -/
def Obligations.WarmRecoveryReportsAndResets : Prop :=
  ∀ (s t : State) (kind : RestartKind) (reply : Reply) (ints : List Entry), t = s.warmRecover kind reply →
    ints = interruptedEntries .A s.a ++ interruptedEntries .B s.b →
    ((s.journal.records.length + ints.length < 128 →
        t.journal.records = s.journal.records ++ numbered s.journal.seq (ints ++
          [⟨.restart, none, false, none, .none, kind.code, 1#32, 0#32,
            some (BitVec.ofNat 16 s.a.queue.length, BitVec.ofNat 16 s.b.queue.length)⟩]) ∧
        t.journal.seq = s.journal.seq + BitVec.ofNat 16 (ints.length + 1)) ∧
      (∀ pre r da db, 128 ≤ s.journal.records.length + ints.length →
        s.journal.records ++ numbered s.journal.seq ints = pre ++ [r] → r.entry.extra = some (da, db) →
        t.journal.records = pre ++ [{ r with entry := { r.entry with
          small := kind.code
          pulses := if r.entry.pulses = 0xFFFFFFFF#32 then 0xFFFFFFFF#32 else r.entry.pulses + 1#32
          extra := some (BitVec.ofNat 16 (min (da.toNat + s.a.queue.length) 65535),
            BitVec.ofNat 16 (min (db.toNat + s.b.queue.length) 65535)) } }] ∧
        t.journal.seq = s.journal.seq + BitVec.ofNat 16 ints.length)) ∧
    t = State.seal
      { power := .running
        resetLow := false
        pins := s.pins
        a := axisAfterReset s.a (s.pins.lines .A) s.a.position
        b := axisAfterReset s.b (s.pins.lines .B) s.b.position
        profiles := s.profiles
        stations := s.stations
        journal := ⟨t.journal.records, t.journal.seq, s.journal.lost, 0, []⟩
        check := t.check
        coldFlag := s.coldFlag
        events := 1#8
        settings := ⟨.immediate, 0#16, .normal, .normal, 1#8, 0xFF#8, .systemJournalAxis, .A⟩
        link := linkAfterReset s.link reply
        pending := s.pending }

/-- The fall of the reset line stops pulses and discards a transaction, and keeps all else; the rise of the line, and SOFT RESET at once,
verify the check code and recover warm or initialise cold (R162, R164, R165, R167). That the loss of the supply, which ends all activity
(R161), keeps every content is the model's choice (log 14), as are the comparison of the code with the contents it was computed over
(log 5) and the operand of PIN_RESET_RELEASE that says that they were disturbed (log 6). -/
def Obligations.ResetsVerifyTheRetainedSet : Prop :=
  ∀ (s : State) (filler : List Byte),
    (∀ held : Power → State,
      held = (fun p => { s with
        power := p
        a := { s.a with slot := s.a.slot.map (fun sl => { sl with interval := none }) }
        b := { s.b with slot := s.b.slot.map (fun sl => { sl with interval := none }) }
        link := { s.link with chipSelect := if s.link.chipSelect = .high then .high else .ignored, shifted := none } }) →
      (s.power = .running → exec .pinReset s = .next { held .heldPin with resetLow := true }) ∧
      exec .supplyOutOfRange s = .next (held .off)) ∧
    (s.power = .heldPin →
      (s.check = s.retained → exec (.pinResetRelease false) s = .next (s.warmRecover .pin ⟨.restarted, 0#8, []⟩)) ∧
      (s.check ≠ s.retained → exec (.pinResetRelease false) s = .next (s.coldInit .retainFault)) ∧
      exec (.pinResetRelease true) s = .next (s.coldInit .retainFault)) ∧
    (s.linkReady = true → ∀ u, u = { s with link := { s.link with chipSelect := .high } } →
      (s.check = s.retained → exec (.softReset filler) s = .next (u.warmRecover .soft ⟨.ok, 0x5A#8, []⟩)) ∧
      (s.check ≠ s.retained → exec (.softReset filler) s = .next (u.coldInit .retainFault)))

/-! ### Lines -/

/-- The part with the pin of a limit line at a level. -/
def limitPinAt (s : State) (x : Axis) (side : Direction) (v : Bool) : State :=
  match x, side with
  | .A, .plus => { s with pins := { s.pins with a := { s.pins.a with limitPlus := v } } }
  | .A, .minus => { s with pins := { s.pins with a := { s.pins.a with limitMinus := v } } }
  | .B, .plus => { s with pins := { s.pins with b := { s.pins.b with limitPlus := v } } }
  | .B, .minus => { s with pins := { s.pins with b := { s.pins.b with limitMinus := v } } }

/-- The part with a limit line's level, as its engine has taken it. -/
def limitLineAt (s : State) (x : Axis) (side : Direction) (v : Bool) : State :=
  match x, side with
  | .A, .plus => { s with a := { s.a with lines := { s.a.lines with limitPlus := v } } }
  | .A, .minus => { s with a := { s.a with lines := { s.a.lines with limitMinus := v } } }
  | .B, .plus => { s with b := { s.b with lines := { s.b.lines with limitPlus := v } } }
  | .B, .minus => { s with b := { s.b with lines := { s.b.lines with limitMinus := v } } }

/-- The part with the pin and the line of an axis's home switch at a level, the line where its engine takes it. -/
def homeAt (s : State) (x : Axis) (pin : Bool) (line : Option Bool) : State :=
  match x with
  | .A => { s with
      pins := { s.pins with a := { s.pins.a with home := pin } }
      a := { s.a with lines := { s.a.lines with home := line.getD s.a.lines.home } } }
  | .B => { s with
      pins := { s.pins with b := { s.pins.b with home := pin } }
      b := { s.b with lines := { s.b.lines with home := line.getD s.b.lines.home } } }

/-- The level of a limit line, as the engine has taken it. -/
def limitLevel (l : Lines) : Direction → Bool
  | .plus => l.limitPlus
  | .minus => l.limitMinus

/-- The pin of a report's line is at the reported level. -/
def pinAt (s : State) : Report → Bool
  | .emergency v => s.pins.emergency == v
  | .sync h => s.pins.syncHigh == h

/-- Two reports of one line. -/
def ofOneLine (q r : Report) : Prop :=
  (∃ v w, q = .emergency v ∧ r = .emergency w) ∨ ∃ v w, q = .sync v ∧ r = .sync w

/-- The part with a shared line changed: its pin at the reported level, and the report outstanding to both engines (R205). -/
def lineChanged (s : State) (r : Report) : State :=
  { s with
    pins := match r with | .emergency v => { s.pins with emergency := v } | .sync h => { s.pins with syncHigh := h }
    a := { s.a with reports := s.a.reports ++ [r] }
    b := { s.b with reports := s.b.reports ++ [r] } }

/-- The part in which an engine takes a report: as it stands where the report is outstanding to the engine, and with the line changed
where it is not and the pin is at the other level. -/
def reportMeets (s : State) (x : Axis) (r : Report) (u : State) : Prop :=
  (r ∈ (s.axis x).reports ∧ u = s) ∨ (r ∉ (s.axis x).reports ∧ pinAt s r = false ∧ u = lineChanged s r)

/-- The releases of the limit, home and emergency lines, and the rise of the sync line, change levels alone (R61, R73, R99,
  R105); a change
of a shared line is outstanding to the other engine until that takes it (R205). -/
def Obligations.ReleasesChangeLevelsAlone : Prop :=
  ∀ (s : State) (x : Axis), s.power = .running →
    (∀ side, exec (.limitRelease x side) s = .next (limitLineAt (limitPinAt s x side false) x side false)) ∧
    exec (.homeRelease x) s = .next (homeAt s x false (some false)) ∧
    (∀ u pre post, reportMeets s x (.emergency false) u → (u.axis x).reports = pre ++ .emergency false :: post →
      (∀ q ∈ pre, ∃ h, q = .sync h) →
      exec (.emergencyRelease x) s =
        .next (u.onAxis x (fun w => { w with reports := pre ++ post, lines := { w.lines with emergency := false } }))) ∧
    ∀ u pre post, reportMeets s x (.sync true) u → (u.axis x).reports = pre ++ .sync true :: post →
      (∀ q ∈ pre, ∃ v, q = .emergency v) →
      exec (.syncHigh x) s =
        .next (u.onAxis x (fun w => { w with reports := pre ++ post, lines := { w.lines with syncHigh := true } }))

/-- A limit line's assertion stops a move that emits pulses toward it, under its limit style, with cause LIMIT and after-action HALT; on
any other axis only the level changes (R99 to R101). That a dwell is such another axis, as R99 and a bullet of R64 say and R64's closing
sentence does not, is the model's choice (log 24), and so is that a line already asserted does not act again (log 9). -/
def Obligations.LimitAssertionStopsTheMoveTowardIt : Prop :=
  ∀ (s u : State) (x : Axis) (side : Direction), s.power = .running →
    u = limitLineAt (limitPinAt s x side true) x side true →
    (limitLevel (s.axis x).lines side = true → exec (.limitAssert x side) s = .next (limitPinAt s x side true)) ∧
    (limitLevel (s.axis x).lines side = false →
      (∀ sl, (s.axis x).slot = some sl → (s.axis x).emitting = true → sl.direction = some side →
        exec (.limitAssert x side) s = .next (u.takeStop x ⟨sl.snap.limitStyle, .limit, .halt⟩)) ∧
      ((s.axis x).emitting = false → exec (.limitAssert x side) s = .next u) ∧
      (∀ sl, (s.axis x).slot = some sl → sl.direction ≠ some side → exec (.limitAssert x side) s = .next u))

/-- A part in which the move of an axis has its capture applied where its record asks for one and has none yet (R62). -/
def capturedOnce (s : State) (x : Axis) (sl : Slot) : State :=
  if sl.move.capture = true ∧ sl.afterCapture = none then
    State.seal (s.onAxis x (fun u => { u with position := sl.move.aux, slot := some { sl with afterCapture := some 0#32 } }))
  else s

/-- The home line's assertion during the pulses of a HOME move applies its capture once, and then stops it under its home style with
cause HOME_FOUND and after-action CONTINUE, or, in STOPPING, raises the pending cause alone; any other move is not acted on (R61, R62,
R98). That a line already asserted does not act again is the model's choice (log 9). -/
def Obligations.HomeAssertionCapturesAndStops : Prop :=
  ∀ (s u : State) (x : Axis), s.power = .running → u = homeAt s x true (some true) →
    ((s.axis x).lines.home = true → exec (.homeAssert x) s = .next (homeAt s x true none)) ∧
    ((s.axis x).lines.home = false →
      ((s.axis x).emitting = false → exec (.homeAssert x) s = .next u) ∧
      ∀ sl, (s.axis x).slot = some sl →
        (sl.move.kind ≠ .home → exec (.homeAssert x) s = .next u) ∧
        (sl.move.kind = .home → (s.axis x).emitting = true →
          ((s.axis x).state = .running →
            exec (.homeAssert x) s = .next ((capturedOnce u x sl).takeStop x ⟨sl.snap.homeStyle, .homeFound, .proceed⟩)) ∧
          ∀ p, (s.axis x).state = .stopping → sl.stop = some p →
            exec (.homeAssert x) s = .next ((capturedOnce u x sl).onAxis x (fun w => { w with
              slot := w.slot.map (fun z => { z with
                stop := some { p with cause := if p.cause.rank < Cause.homeFound.rank then .homeFound else p.cause } }) }))))

/-- The emergency line's assertion, as an engine takes it: a current move takes a stop of the emergency style with cause EMERGENCY and
after-action HALT; an axis without one halts with a HALT record offered, leaving the wait list first; a HALTED axis is not acted on
(R103, R104). The sync line's fall starts an ARMED LINE move and nothing else (R72, R73). Two points are the model's choices: an
engine's command for a report first takes every earlier report of that line still outstanding to it (log 7), and a report of the level
the line has, with none such outstanding, is no change (log 9). -/
def Obligations.SharedLinesActOnTheirEngine : Prop :=
  ∀ (s : State) (x : Axis), s.power = .running →
    (∀ v pre post w h, reportMeets s x (.emergency true) v → (v.axis x).reports = pre ++ .emergency true :: post →
      (∀ q ∈ pre, ∃ h, q = .sync h) →
      w = v.onAxis x (fun u => { u with reports := pre ++ post, lines := { u.lines with emergency := true } }) →
      h = (⟨.halt, some x, true, none, .emergency, 0#8, 0#32, (s.axis x).position, none⟩ : Entry) →
      ((s.axis x).lines.emergency = true ∨ (s.axis x).state = .halted → exec (.emergencyAssert x) s = .next w) ∧
      ((s.axis x).lines.emergency = false →
        ((s.axis x).state.holdsMove = true →
          exec (.emergencyAssert x) s = .next (w.takeStop x ⟨s.settings.emergencyStyle, .emergency, .halt⟩)) ∧
        ((s.axis x).state = .idle → exec (.emergencyAssert x) s =
          .next (((w.onAxis x (fun u => { u with state := .halted })).offerRecord h).setEvent (haltedEvent x))) ∧
        ((s.axis x).state = .blocked → exec (.emergencyAssert x) s =
          .next ((((w.leaveWaitList x).onAxis x (fun u => { u with state := .halted })).offerRecord h).setEvent (haltedEvent x))))) ∧
    (∀ v pre post w, reportMeets s x (.sync false) v → (v.axis x).reports = pre ++ .sync false :: post →
      (∀ q ∈ pre, ∃ e, q = .emergency e) →
      w = v.onAxis x (fun u => { u with reports := pre ++ post, lines := { u.lines with syncHigh := false } }) →
      ((∃ sl, (s.axis x).slot = some sl ∧ (s.axis x).state = .armed ∧ sl.move.start = .line) ∧ (s.axis x).lines.syncHigh = true →
        exec (.syncFallingEdge x) s = .next (w.startMove x)) ∧
      (((s.axis x).lines.syncHigh = false ∨ (s.axis x).state ≠ .armed ∨ ∃ sl, (s.axis x).slot = some sl ∧ sl.move.start ≠ .line) →
        exec (.syncFallingEdge x) s = .next w)) ∧
    ∀ r : Report,
      (r ∉ (s.axis x).reports → pinAt s r = true → exec (reportCommand x r) s = .next s) ∧
      ∀ u q pre rest t, reportMeets s x r u → (u.axis x).reports = pre ++ q :: rest → (∀ k ∈ pre, ¬ofOneLine k r) → ofOneLine q r →
        q ≠ r → exec (reportCommand x q) u = .next t → exec (reportCommand x r) s = exec (reportCommand x r) t

/-! ### Starts, targets, admission and pairs -/

/-- The start checks of R50 in order: a DWELL times in WAIT; distance 0 ends DONE; a HOME move on its home line is captured if asked and
ends DONE; an asserted limit on its side refuses it; else it runs at level 0 with its first interval begun and the direction output
follows (R27, R50 to R52, R54, R56). -/
def Obligations.StartChecksDecideTheStart : Prop :=
  ∀ (s : State) (x : Axis) (sl : Slot), (s.axis x).slot = some sl →
    (sl.move.kind = .dwell → s.startMove x = s.onAxis x (fun u => { u with
      state := .running
      slot := some { sl with phase := .wait, level := 0, dwell := some sl.move.value.toNat, armTimer := none } })) ∧
    (sl.move.kind ≠ .dwell →
      (sl.distance = some 0 → s.startMove x = s.endMove x .done .none .proceed) ∧
      (sl.distance ≠ some 0 →
        (sl.move.kind = .home → (s.axis x).lines.home = true →
          s.startMove x = (capturedOnce s x sl).endMove x .done .homeFound .proceed) ∧
        (¬(sl.move.kind = .home ∧ (s.axis x).lines.home = true) → ∀ d, sl.direction = some d →
          (limitLevel (s.axis x).lines d = true → s.startMove x = s.endMove x .refused .limitActive .halt) ∧
          (limitLevel (s.axis x).lines d = false → s.startMove x = s.onAxis x (fun u => { u with
            state := .running
            lastDirection := d
            slot := some { sl with
              phase := if 0 < sl.snap.top then .accel else .cruise
              level := 0
              armTimer := none
              interval := some (intervalOf (min sl.snap.base sl.snap.ceiling)) } })))))

/-- Targets: RELATIVE and HOME by the record, RUN without a distance, DWELL with neither, ABSOLUTE by the difference reduced into the
signed range, STATION by the position its axis has in the table, refused NO_STATION without one (R45 to R47, R130). A resolved distance
leads from the position to the target through the counter's wrap. -/
def Obligations.TargetsResolve : Prop :=
  (∀ (s : State) (x : Axis) (m : Move),
    (m.kind = .relative ∨ m.kind = .home → s.resolve x m = .ok (some m.direction, some m.value.toNat)) ∧
    (m.kind = .run → s.resolve x m = .ok (some m.direction, none)) ∧
    (m.kind = .dwell → s.resolve x m = .ok (none, none)) ∧
    (m.kind = .absolute → s.resolve x m = resolveTarget m.value (s.axis x).position) ∧
    (∀ n : Fin 32, m.kind = .station → m.value.toNat = n.val →
      s.resolve x m =
        match (match x with | .A => s.stations[n].a | .B => s.stations[n].b) with
        | none => .error .noStation
        | some p => resolveTarget p (s.axis x).position)) ∧
  ∀ target position : Word,
    ((target - position).toInt = 0 → resolveTarget target position = .ok (some .plus, some 0)) ∧
    (1 ≤ (target - position).toInt → (target - position).toInt ≤ 16777215 →
      resolveTarget target position = .ok (some .plus, some (target - position).toInt.toNat)) ∧
    (-16777215 ≤ (target - position).toInt → (target - position).toInt ≤ -1 →
      resolveTarget target position = .ok (some .minus, some (-(target - position).toInt).toNat)) ∧
    (16777215 < (target - position).toInt ∨ (target - position).toInt < -16777215 →
      resolveTarget target position = .error .range) ∧
    ∀ d n, resolveTarget target position = .ok (some d, some n) →
      target = (match d with | .plus => position + BitVec.ofNat 32 n | .minus => position - BitVec.ofNat 32 n)

/-- The snapshot of a profile at admission (R24, R25). -/
def snapshotOf (p : Profile) : Snapshot :=
  ⟨p.base, p.cruise, p.ramp, p.settle, p.limitStyle, p.homeStyle, topLevel p.base p.cruise p.ramp, p.cruise⟩

/-- The part with an axis's head admitted: the reservation taken, the head off the queue, and its slot ARMED (R14, R40, R43, R49). -/
def headAdmitted (s : State) (x : Axis) (m : Move) (rest : List Move) (timer : Option Nat)
    (target : Option Direction × Option Nat) : State :=
  State.onAxis { s with journal := { s.journal with reserved := s.journal.reserved + 1 } } x (fun u => { u with
    state := .armed
    queue := rest
    slot := some ⟨m, snapshotOf s.profiles[m.profile], target.1, target.2, .none, 0, 0#32, none, none, none, timer, none⟩ })

/-- An admission attempt of an IDLE axis with a queue: refused at 126, it waits BLOCKED; granted, its head is admitted with its snapshot
and target, is refused if it has no target, starts if NOW, waits for the sync edge under its arm timer if LINE, and if PAIR waits alike
unless the other axis waits, when the pair is decided (R24, R42 to R49, R74, R80, R144). -/
def Obligations.AdmissionAttemptAdmitsTheHead : Prop :=
  ∀ (s : State) (x : Axis), s.power = .running →
    ((s.axis x).state ≠ .idle ∨ (s.axis x).queue = [] → exec (.admissionAttempt x) s = .next s) ∧
    ∀ m rest, (s.axis x).state = .idle → (s.axis x).queue = m :: rest →
      (126 ≤ s.journal.records.length + s.journal.reserved → exec (.admissionAttempt x) s =
        .next (State.onAxis { s with journal := { s.journal with waitList := s.journal.waitList ++ [x] } } x
          (fun u => { u with state := .blocked }))) ∧
      (s.journal.records.length + s.journal.reserved ≤ 125 →
        (∀ cause, s.resolve x m = .error cause → exec (.admissionAttempt x) s =
          .next ((headAdmitted s x m rest none (none, none)).endMove x .refused cause .halt)) ∧
        ∀ target timer, s.resolve x m = .ok target →
          timer = (if s.settings.armLimit = 0#16 then none else some s.settings.armLimit.toNat) →
          (m.start = .now → exec (.admissionAttempt x) s = .next ((headAdmitted s x m rest none target).startMove x)) ∧
          (m.start = .line → exec (.admissionAttempt x) s = .next (headAdmitted s x m rest timer target)) ∧
          (m.start = .pair →
            ((∀ sl, (s.axis x.other).slot = some sl → (s.axis x.other).state = .armed → sl.move.start ≠ .pair) →
              exec (.admissionAttempt x) s = .next (headAdmitted s x m rest timer target)) ∧
            ∀ sl t slA slB, (s.axis x.other).slot = some sl → (s.axis x.other).state = .armed → sl.move.start = .pair →
              t = headAdmitted s x m rest none target → t.a.slot = some slA → t.b.slot = some slB →
              exec (.admissionAttempt x) s = .next (t.decidePair slA slB)))

/-- The second arrival decides the pair: different numbers refuse both moves; a matched pair of which a side would be refused for its
limit is refused whole, the other side PAIR_BROKEN; else both start; A's part comes before B's (R75 to R78). -/
def Obligations.SecondArrivalDecidesThePair : Prop :=
  ∀ (s : State) (slA slB : Slot) (limited : AxisUnit → Slot → Bool), s.a.slot = some slA → s.b.slot = some slB →
    limited = (fun u sl => decide (sl.move.kind ≠ .dwell ∧ sl.distance ≠ some 0 ∧ ¬(sl.move.kind = .home ∧ u.lines.home = true) ∧
      ∃ d ∈ sl.direction, limitLevel u.lines d = true)) →
    (slA.move.pair ≠ slB.move.pair → s.decidePair slA slB =
      (s.endMove .A .refused .pairMismatch .halt).endMove .B .refused .pairMismatch .halt) ∧
    (slA.move.pair = slB.move.pair →
      (limited s.a slA = true → limited s.b slB = false → s.decidePair slA slB =
        (s.endMove .A .refused .limitActive .halt).endMove .B .refused .pairBroken .halt) ∧
      (limited s.a slA = false → limited s.b slB = true → s.decidePair slA slB =
        (s.endMove .A .refused .pairBroken .halt).endMove .B .refused .limitActive .halt) ∧
      (limited s.a slA = true → limited s.b slB = true → s.decidePair slA slB =
        (s.endMove .A .refused .limitActive .halt).endMove .B .refused .limitActive .halt) ∧
      (limited s.a slA = false → limited s.b slB = false → s.decidePair slA slB = (s.startMove .A).startMove .B))

/-! ### Pulses and timers -/

/-- One pulse, in its five steps: the edge, the counter, the counts, the marks that match (out of the table, and a MARK record offered
for each in the table's order), and the update (R55, R58, R118 to R120). That the step output is held as a count of its edges (log 13),
and that without a move that emits a pulse is nothing (log 4), are the model's choices. -/
def Obligations.PulseTakesItsFiveSteps : Prop :=
  ∀ (s : State) (x : Axis), s.power = .running →
    ((s.axis x).emitting = false → exec (.pulse x) s = .next s) ∧
    ∀ (sl sl' : Slot) (d : Direction) (p : Word) (fired : List Mark), (s.axis x).emitting = true → (s.axis x).slot = some sl →
      sl.direction = some d →
      p = (match d with | .plus => (s.axis x).position + 1#32 | .minus => (s.axis x).position - 1#32) →
      sl' = { sl with delivered := sl.delivered + 1#32, afterCapture := sl.afterCapture.map (· + 1#32) } →
      fired = (s.axis x).marks.filter (fun m => m.position == p && (m.sense == .either || m.sense == (match d with | .plus => .up | .minus => .down))) →
      exec (.pulse x) s = .next
        ((fired.foldl (fun t m => t.offerRecord
            ⟨.mark, some x, false, some sl.move.tag, .none, m.id, sl'.delivered, p, some (sl.move.tag, 0#16)⟩)
          (State.seal (s.onAxis x (fun u => { u with
            stepEdges := u.stepEdges + 1
            position := p
            slot := some sl'
            marks := u.marks.filter (fun m => m ∉ fired) })))).afterPulse x sl')

/-- The slot a pulse's update leaves, with the interval of the next pulse begun at the new rate (R54). -/
def nextInterval (sl : Slot) (phase : Phase) (level ceiling : Nat) : Slot :=
  { sl with
    phase := phase
    level := level
    snap := { sl.snap with ceiling := ceiling }
    interval := some (intervalOf (min (sl.snap.base + sl.snap.ramp * level) ceiling)) }

/-- The update after a pulse: the end, the deceleration test,
  and the phase advance of a move in RUNNING; the descent in STOPPING (R28 to
R31, R34, R66, R87). -/
def Obligations.RateLawFollowsEachPulse : Prop :=
  ∀ (s : State) (x : Axis) (sl : Slot),
    ((s.axis x).state = .running → ∀ d, sl.distance = some d →
      (d ≤ sl.delivered.toNat → s.afterPulse x sl =
        if sl.move.kind = .home then s.endMove x .stopped .homeNotFound .halt else s.endMove x .done .none .proceed) ∧
      (sl.delivered.toNat < d →
        (sl.phase = .accel ∨ sl.phase = .cruise ∨ sl.phase = .slowing → d - sl.delivered.toNat ≤ sl.level + sl.snap.settle →
          s.afterPulse x sl = s.setSlot x (some (nextInterval sl .decel (sl.level - 1) sl.snap.ceiling))) ∧
        (sl.phase = .decel → s.afterPulse x sl =
          s.setSlot x (some (nextInterval sl (if sl.level - 1 = 0 then .settle else .decel) (sl.level - 1) sl.snap.ceiling))) ∧
        (sl.phase = .settle → s.afterPulse x sl = s.setSlot x (some (nextInterval sl .settle sl.level sl.snap.ceiling))))) ∧
    ((s.axis x).state = .running →
      sl.distance = none ∨ (∃ d, sl.distance = some d ∧ sl.level + sl.snap.settle < d - sl.delivered.toNat) →
      (sl.phase = .accel → s.afterPulse x sl =
        s.setSlot x (some (nextInterval sl (if sl.level + 1 = sl.snap.top then .cruise else .accel) (sl.level + 1) sl.snap.ceiling))) ∧
      (sl.phase = .cruise → s.afterPulse x sl = s.setSlot x (some (nextInterval sl .cruise sl.level sl.snap.ceiling))) ∧
      (sl.phase = .slowing → s.afterPulse x sl =
        s.setSlot x (some (if sl.level - 1 = sl.snap.top then nextInterval sl .cruise (sl.level - 1) sl.snap.cruise
          else nextInterval sl .slowing (sl.level - 1) sl.snap.ceiling)))) ∧
    ∀ p, (s.axis x).state = .stopping → sl.stop = some p → sl.phase = .stopping →
      ((sl.level = 0 ∨ ∃ d, sl.distance = some d ∧ d ≤ sl.delivered.toNat) →
        s.afterPulse x sl = s.endMove x (stopRecordKind p.cause) p.cause p.after) ∧
      (0 < sl.level → (∀ d, sl.distance = some d → sl.delivered.toNat < d) →
        s.afterPulse x sl = s.setSlot x (some (nextInterval sl .stopping (sl.level - 1) sl.snap.ceiling)))

/-- The end of a dwell's time ends it DONE; the end of an arm timer refuses the waiting move and halts the axis (R64, R81). That neither
does anything without its timer is the model's choice (log 4). -/
def Obligations.TimersEndTheirMoves : Prop :=
  ∀ (s : State) (x : Axis), s.power = .running →
    (∀ sl, (s.axis x).slot = some sl →
      ((s.axis x).state = .running → sl.phase = .wait → exec (.dwellTimeout x) s = .next (s.endMove x .done .none .proceed)) ∧
      ((s.axis x).state = .armed → sl.armTimer ≠ none → exec (.armTimeout x) s = .next (s.endMove x .refused .armTimeout .halt)) ∧
      ((s.axis x).state ≠ .running ∨ sl.phase ≠ .wait → exec (.dwellTimeout x) s = .next s) ∧
      ((s.axis x).state ≠ .armed ∨ sl.armTimer = none → exec (.armTimeout x) s = .next s)) ∧
    ((s.axis x).slot = none → exec (.dwellTimeout x) s = .next s ∧ exec (.armTimeout x) s = .next s)

/-! ### The whole machine -/

/-- Every step keeps the axes and their claims in order: slots, phases and pending stops with the axis states (R39, R26, R86), the
reservation count and the wait list with them (R140, R144), the journal's capacity (R134, R149), and that a claim waits only at 126 or
more (R145). -/
def Obligations.StepsKeepTheEngineLaws : Prop :=
  ∀ s t : State, s.EngineLaws → step s = .next t → t.EngineLaws

/-- Once an engine has taken the emergency line's assertion, and until its release, its axis is HALTED, or STOPPING toward a halt
(R105, R110); and each engine's line levels are those of the pins but for the reports outstanding to it (R205). -/
def Obligations.StepsKeepTheEmergencyLaw : Prop :=
  ∀ s t : State, s.EngineLaws → s.a.EmergencyLaw → s.b.EmergencyLaw → s.LineLaw → step s = .next t →
    t.a.EmergencyLaw ∧ t.b.EmergencyLaw ∧ t.LineLaw

/-- Every step keeps the tables, the counts, the rates and the link within their ranges, and the held records' numbers consecutive. -/
def Obligations.StepsKeepTheTableLaws : Prop :=
  ∀ s t : State, s.TableLaws → step s = .next t → t.TableLaws

/-- Every step leaves the check code matching the retained set (R166). -/
def Obligations.StepsKeepTheCheckCode : Prop :=
  ∀ s t : State, s.CheckLaw → step s = .next t → t.CheckLaw

/-- The part right after power-on has every law. That its lines are at rest (log 8) and that it stands for the part after power-on
(log 19) are the model's choices. -/
def Obligations.ResetHasEveryLaw : Prop :=
  State.reset.EngineLaws ∧ State.reset.a.EmergencyLaw ∧ State.reset.b.EmergencyLaw ∧ State.reset.LineLaw ∧ State.reset.TableLaws ∧
    State.reset.CheckLaw

/-- The held records that a command acknowledges: those from the oldest through the number of an ACK JOURNAL (R155). -/
def acknowledgedCount (s : State) : Instr → Nat
  | .ackJournal a _ => (a - s.journal.oldest).toNat + 1
  | _ => 0

/-- A move that stands in an axis's slot before a command and not after it has left its terminal record, outside a cold initialisation:
among the records written after those held before, of which only an ACK JOURNAL removes any, one has a terminal kind, the axis and the
move's tag (R65, R141, R169). A request meets the part with no report of a shared line outstanding, as R205 has it. -/
def Obligations.EveryEndingIsRecorded : Prop :=
  ∀ (c : Instr) (s t : State) (x : Axis) (sl : Slot), s.EngineLaws → s.CheckLaw → exec c s = .next t →
    s.linkReady = true ∨ payloadOfRequest c = none → c ≠ .powerOn → c ≠ .pinResetRelease true → s.power ≠ .heldPowerOn →
    (s.axis x).slot = some sl → (t.axis x).slot = none →
    ∃ (written : List Record) (r : Record),
      t.journal.records = s.journal.records.drop (acknowledgedCount s c) ++ written ∧ r ∈ written ∧
      r.entry.axis = some x ∧ r.entry.tag = some sl.move.tag ∧
      (r.entry.kind = .done ∨ r.entry.kind = .stopped ∨ r.entry.kind = .refused ∨ r.entry.kind = .interrupted)

/-- Outside recovery from a reset and cold initialisation, a held record is removed by ACK JOURNAL alone: every other command only adds
records after the newest; and none touches the stations but its three requests or the profiles but WRITE PROFILE (R134, R139, R124,
R21). -/
def Obligations.HeldRecordsAreOnlyAdded : Prop :=
  ∀ (c : Instr) (s t : State), exec c s = .next t → (∀ filler, c ≠ .softReset filler) → c ≠ .powerOn → (∀ d, c ≠ .pinResetRelease d) →
    ((∀ a filler, c ≠ .ackJournal a filler) → s.journal.records <+: t.journal.records) ∧
    ((∀ n pa va pb vb filler, c ≠ .stationStore n pa va pb vb filler) → (∀ n set filler, c ≠ .stationTeach n set filler) →
      (∀ n set filler, c ≠ .stationClear n set filler) → t.stations = s.stations) ∧
    ((∀ i p filler, c ≠ .writeProfile i p filler) → t.profiles = s.profiles)

/-- What an engine takes for itself reaches neither the other axis, nor the profiles, stations, settings, cold flag or link: pulses,
timers, and its own reports of the lines (R41, R79, R205). A change of a shared line is a report outstanding to the other engine. -/
def Obligations.EnginesLeaveEachOtherAlone : Prop :=
  ∀ (c : Instr) (s t : State) (x : Axis),
    c = .pulse x ∨ c = .dwellTimeout x ∨ c = .armTimeout x ∨ c = .syncFallingEdge x ∨ c = .syncHigh x ∨ c = .homeAssert x ∨
      c = .homeRelease x ∨ c = .emergencyAssert x ∨ c = .emergencyRelease x ∨ (∃ side, c = .limitAssert x side) ∨
      (∃ side, c = .limitRelease x side) →
    exec c s = .next t →
    (∃ made : List Report, t.axis x.other = { s.axis x.other with reports := (s.axis x.other).reports ++ made } ∧
      (made = [] ∨ ∃ r, c = reportCommand x r ∧ made = [r])) ∧ t.profiles = s.profiles ∧ t.stations = s.stations ∧
        t.settings = s.settings ∧
      t.coldFlag = s.coldFlag ∧ t.link = s.link ∧ t.power = s.power
end

