-- ==== Sys2Proof/Laws/State.lean ====
section
/-! SUPPORT. What each update of the part leaves in each field: one lemma per field per update. -/

namespace Sys2Proof.Machine

@[simp] theorem axis_A (s : State) : s.axis .A = s.a := rfl
@[simp] theorem axis_B (s : State) : s.axis .B = s.b := rfl
@[simp] theorem other_A : Axis.A.other = .B := rfl
@[simp] theorem other_B : Axis.B.other = .A := rfl


/-! ### setAxis -/

@[simp] theorem setAxis_power (s : State) (x : Axis) (u : AxisUnit) : (s.setAxis x u).power = s.power := by cases x <;> rfl
@[simp] theorem setAxis_resetLow (s : State) (x : Axis) (u : AxisUnit) : (s.setAxis x u).resetLow = s.resetLow := by cases x <;> rfl
@[simp] theorem setAxis_pins (s : State) (x : Axis) (u : AxisUnit) : (s.setAxis x u).pins = s.pins := by cases x <;> rfl
@[simp] theorem setAxis_profiles (s : State) (x : Axis) (u : AxisUnit) : (s.setAxis x u).profiles = s.profiles := by cases x <;> rfl
@[simp] theorem setAxis_stations (s : State) (x : Axis) (u : AxisUnit) : (s.setAxis x u).stations = s.stations := by cases x <;> rfl
@[simp] theorem setAxis_journal (s : State) (x : Axis) (u : AxisUnit) : (s.setAxis x u).journal = s.journal := by cases x <;> rfl
@[simp] theorem setAxis_check (s : State) (x : Axis) (u : AxisUnit) : (s.setAxis x u).check = s.check := by cases x <;> rfl
@[simp] theorem setAxis_coldFlag (s : State) (x : Axis) (u : AxisUnit) : (s.setAxis x u).coldFlag = s.coldFlag := by cases x <;> rfl
@[simp] theorem setAxis_events (s : State) (x : Axis) (u : AxisUnit) : (s.setAxis x u).events = s.events := by cases x <;> rfl
@[simp] theorem setAxis_settings (s : State) (x : Axis) (u : AxisUnit) : (s.setAxis x u).settings = s.settings := by cases x <;> rfl
@[simp] theorem setAxis_link (s : State) (x : Axis) (u : AxisUnit) : (s.setAxis x u).link = s.link := by cases x <;> rfl
@[simp] theorem setAxis_pending (s : State) (x : Axis) (u : AxisUnit) : (s.setAxis x u).pending = s.pending := by cases x <;> rfl
@[simp] theorem setAxis_axis (s : State) (x : Axis) (u : AxisUnit) : (s.setAxis x u).axis x = u := by cases x <;> rfl
@[simp] theorem setAxis_axis_other (s : State) (x : Axis) (u : AxisUnit) : (s.setAxis x u).axis x.other = s.axis x.other := by cases x <;> rfl
theorem setAxis_axis_ne (s : State) (x y : Axis) (u : AxisUnit) (h : y ≠ x) : (s.setAxis x u).axis y = s.axis y := by
  cases x <;> cases y <;> first | rfl | exact absurd rfl h

/-! ### onAxis -/

@[simp] theorem onAxis_power (s : State) (x : Axis) (f : AxisUnit → AxisUnit) : (s.onAxis x f).power = s.power := by cases x <;> rfl
@[simp] theorem onAxis_resetLow (s : State) (x : Axis) (f : AxisUnit → AxisUnit) : (s.onAxis x f).resetLow = s.resetLow := by cases x <;> rfl
@[simp] theorem onAxis_pins (s : State) (x : Axis) (f : AxisUnit → AxisUnit) : (s.onAxis x f).pins = s.pins := by cases x <;> rfl
@[simp] theorem onAxis_profiles (s : State) (x : Axis) (f : AxisUnit → AxisUnit) : (s.onAxis x f).profiles = s.profiles := by cases x <;> rfl
@[simp] theorem onAxis_stations (s : State) (x : Axis) (f : AxisUnit → AxisUnit) : (s.onAxis x f).stations = s.stations := by cases x <;> rfl
@[simp] theorem onAxis_journal (s : State) (x : Axis) (f : AxisUnit → AxisUnit) : (s.onAxis x f).journal = s.journal := by cases x <;> rfl
@[simp] theorem onAxis_check (s : State) (x : Axis) (f : AxisUnit → AxisUnit) : (s.onAxis x f).check = s.check := by cases x <;> rfl
@[simp] theorem onAxis_coldFlag (s : State) (x : Axis) (f : AxisUnit → AxisUnit) : (s.onAxis x f).coldFlag = s.coldFlag := by cases x <;> rfl
@[simp] theorem onAxis_events (s : State) (x : Axis) (f : AxisUnit → AxisUnit) : (s.onAxis x f).events = s.events := by cases x <;> rfl
@[simp] theorem onAxis_settings (s : State) (x : Axis) (f : AxisUnit → AxisUnit) : (s.onAxis x f).settings = s.settings := by cases x <;> rfl
@[simp] theorem onAxis_link (s : State) (x : Axis) (f : AxisUnit → AxisUnit) : (s.onAxis x f).link = s.link := by cases x <;> rfl
@[simp] theorem onAxis_pending (s : State) (x : Axis) (f : AxisUnit → AxisUnit) : (s.onAxis x f).pending = s.pending := by cases x <;> rfl
@[simp] theorem onAxis_axis (s : State) (x : Axis) (f : AxisUnit → AxisUnit) : (s.onAxis x f).axis x = f (s.axis x) := by cases x <;> rfl
@[simp] theorem onAxis_axis_other (s : State) (x : Axis) (f : AxisUnit → AxisUnit) : (s.onAxis x f).axis x.other = s.axis x.other := by cases x <;> rfl
theorem onAxis_axis_ne (s : State) (x y : Axis) (f : AxisUnit → AxisUnit) (h : y ≠ x) : (s.onAxis x f).axis y = s.axis y := by
  cases x <;> cases y <;> first | rfl | exact absurd rfl h

/-! ### setAxisState -/

@[simp] theorem setAxisState_power (s : State) (x : Axis) (st : AxisState) : (s.setAxisState x st).power = s.power := by cases x <;> rfl
@[simp] theorem setAxisState_resetLow (s : State) (x : Axis) (st : AxisState) : (s.setAxisState x st).resetLow = s.resetLow := by cases x <;> rfl
@[simp] theorem setAxisState_pins (s : State) (x : Axis) (st : AxisState) : (s.setAxisState x st).pins = s.pins := by cases x <;> rfl
@[simp] theorem setAxisState_profiles (s : State) (x : Axis) (st : AxisState) : (s.setAxisState x st).profiles = s.profiles := by cases x <;> rfl
@[simp] theorem setAxisState_stations (s : State) (x : Axis) (st : AxisState) : (s.setAxisState x st).stations = s.stations := by cases x <;> rfl
@[simp] theorem setAxisState_journal (s : State) (x : Axis) (st : AxisState) : (s.setAxisState x st).journal = s.journal := by cases x <;> rfl
@[simp] theorem setAxisState_check (s : State) (x : Axis) (st : AxisState) : (s.setAxisState x st).check = s.check := by cases x <;> rfl
@[simp] theorem setAxisState_coldFlag (s : State) (x : Axis) (st : AxisState) : (s.setAxisState x st).coldFlag = s.coldFlag := by cases x <;> rfl
@[simp] theorem setAxisState_events (s : State) (x : Axis) (st : AxisState) : (s.setAxisState x st).events = s.events := by cases x <;> rfl
@[simp] theorem setAxisState_settings (s : State) (x : Axis) (st : AxisState) : (s.setAxisState x st).settings = s.settings := by cases x <;> rfl
@[simp] theorem setAxisState_link (s : State) (x : Axis) (st : AxisState) : (s.setAxisState x st).link = s.link := by cases x <;> rfl
@[simp] theorem setAxisState_pending (s : State) (x : Axis) (st : AxisState) : (s.setAxisState x st).pending = s.pending := by cases x <;> rfl
@[simp] theorem setAxisState_axis (s : State) (x : Axis) (st : AxisState) : (s.setAxisState x st).axis x = { s.axis x with state := st } := by cases x <;> rfl
@[simp] theorem setAxisState_axis_other (s : State) (x : Axis) (st : AxisState) : (s.setAxisState x st).axis x.other = s.axis x.other := by cases x <;> rfl
theorem setAxisState_axis_ne (s : State) (x y : Axis) (st : AxisState) (h : y ≠ x) : (s.setAxisState x st).axis y = s.axis y := by
  cases x <;> cases y <;> first | rfl | exact absurd rfl h

/-! ### setSlot -/

@[simp] theorem setSlot_power (s : State) (x : Axis) (sl : Option Slot) : (s.setSlot x sl).power = s.power := by cases x <;> rfl
@[simp] theorem setSlot_resetLow (s : State) (x : Axis) (sl : Option Slot) : (s.setSlot x sl).resetLow = s.resetLow := by cases x <;> rfl
@[simp] theorem setSlot_pins (s : State) (x : Axis) (sl : Option Slot) : (s.setSlot x sl).pins = s.pins := by cases x <;> rfl
@[simp] theorem setSlot_profiles (s : State) (x : Axis) (sl : Option Slot) : (s.setSlot x sl).profiles = s.profiles := by cases x <;> rfl
@[simp] theorem setSlot_stations (s : State) (x : Axis) (sl : Option Slot) : (s.setSlot x sl).stations = s.stations := by cases x <;> rfl
@[simp] theorem setSlot_journal (s : State) (x : Axis) (sl : Option Slot) : (s.setSlot x sl).journal = s.journal := by cases x <;> rfl
@[simp] theorem setSlot_check (s : State) (x : Axis) (sl : Option Slot) : (s.setSlot x sl).check = s.check := by cases x <;> rfl
@[simp] theorem setSlot_coldFlag (s : State) (x : Axis) (sl : Option Slot) : (s.setSlot x sl).coldFlag = s.coldFlag := by cases x <;> rfl
@[simp] theorem setSlot_events (s : State) (x : Axis) (sl : Option Slot) : (s.setSlot x sl).events = s.events := by cases x <;> rfl
@[simp] theorem setSlot_settings (s : State) (x : Axis) (sl : Option Slot) : (s.setSlot x sl).settings = s.settings := by cases x <;> rfl
@[simp] theorem setSlot_link (s : State) (x : Axis) (sl : Option Slot) : (s.setSlot x sl).link = s.link := by cases x <;> rfl
@[simp] theorem setSlot_pending (s : State) (x : Axis) (sl : Option Slot) : (s.setSlot x sl).pending = s.pending := by cases x <;> rfl
@[simp] theorem setSlot_axis (s : State) (x : Axis) (sl : Option Slot) : (s.setSlot x sl).axis x = { s.axis x with slot := sl } := by cases x <;> rfl
@[simp] theorem setSlot_axis_other (s : State) (x : Axis) (sl : Option Slot) : (s.setSlot x sl).axis x.other = s.axis x.other := by cases x <;> rfl
theorem setSlot_axis_ne (s : State) (x y : Axis) (sl : Option Slot) (h : y ≠ x) : (s.setSlot x sl).axis y = s.axis y := by
  cases x <;> cases y <;> first | rfl | exact absurd rfl h

/-! ### setQueue -/

@[simp] theorem setQueue_power (s : State) (x : Axis) (q : List Move) : (s.setQueue x q).power = s.power := by cases x <;> rfl
@[simp] theorem setQueue_resetLow (s : State) (x : Axis) (q : List Move) : (s.setQueue x q).resetLow = s.resetLow := by cases x <;> rfl
@[simp] theorem setQueue_pins (s : State) (x : Axis) (q : List Move) : (s.setQueue x q).pins = s.pins := by cases x <;> rfl
@[simp] theorem setQueue_profiles (s : State) (x : Axis) (q : List Move) : (s.setQueue x q).profiles = s.profiles := by cases x <;> rfl
@[simp] theorem setQueue_stations (s : State) (x : Axis) (q : List Move) : (s.setQueue x q).stations = s.stations := by cases x <;> rfl
@[simp] theorem setQueue_journal (s : State) (x : Axis) (q : List Move) : (s.setQueue x q).journal = s.journal := by cases x <;> rfl
@[simp] theorem setQueue_check (s : State) (x : Axis) (q : List Move) : (s.setQueue x q).check = s.check := by cases x <;> rfl
@[simp] theorem setQueue_coldFlag (s : State) (x : Axis) (q : List Move) : (s.setQueue x q).coldFlag = s.coldFlag := by cases x <;> rfl
@[simp] theorem setQueue_events (s : State) (x : Axis) (q : List Move) : (s.setQueue x q).events = s.events := by cases x <;> rfl
@[simp] theorem setQueue_settings (s : State) (x : Axis) (q : List Move) : (s.setQueue x q).settings = s.settings := by cases x <;> rfl
@[simp] theorem setQueue_link (s : State) (x : Axis) (q : List Move) : (s.setQueue x q).link = s.link := by cases x <;> rfl
@[simp] theorem setQueue_pending (s : State) (x : Axis) (q : List Move) : (s.setQueue x q).pending = s.pending := by cases x <;> rfl
@[simp] theorem setQueue_axis (s : State) (x : Axis) (q : List Move) : (s.setQueue x q).axis x = { s.axis x with queue := q } := by cases x <;> rfl
@[simp] theorem setQueue_axis_other (s : State) (x : Axis) (q : List Move) : (s.setQueue x q).axis x.other = s.axis x.other := by cases x <;> rfl
theorem setQueue_axis_ne (s : State) (x y : Axis) (q : List Move) (h : y ≠ x) : (s.setQueue x q).axis y = s.axis y := by
  cases x <;> cases y <;> first | rfl | exact absurd rfl h

/-! ### setMarks -/

@[simp] theorem setMarks_power (s : State) (x : Axis) (ms : List Mark) : (s.setMarks x ms).power = s.power := by cases x <;> rfl
@[simp] theorem setMarks_resetLow (s : State) (x : Axis) (ms : List Mark) : (s.setMarks x ms).resetLow = s.resetLow := by cases x <;> rfl
@[simp] theorem setMarks_pins (s : State) (x : Axis) (ms : List Mark) : (s.setMarks x ms).pins = s.pins := by cases x <;> rfl
@[simp] theorem setMarks_profiles (s : State) (x : Axis) (ms : List Mark) : (s.setMarks x ms).profiles = s.profiles := by cases x <;> rfl
@[simp] theorem setMarks_stations (s : State) (x : Axis) (ms : List Mark) : (s.setMarks x ms).stations = s.stations := by cases x <;> rfl
@[simp] theorem setMarks_journal (s : State) (x : Axis) (ms : List Mark) : (s.setMarks x ms).journal = s.journal := by cases x <;> rfl
@[simp] theorem setMarks_check (s : State) (x : Axis) (ms : List Mark) : (s.setMarks x ms).check = s.check := by cases x <;> rfl
@[simp] theorem setMarks_coldFlag (s : State) (x : Axis) (ms : List Mark) : (s.setMarks x ms).coldFlag = s.coldFlag := by cases x <;> rfl
@[simp] theorem setMarks_events (s : State) (x : Axis) (ms : List Mark) : (s.setMarks x ms).events = s.events := by cases x <;> rfl
@[simp] theorem setMarks_settings (s : State) (x : Axis) (ms : List Mark) : (s.setMarks x ms).settings = s.settings := by cases x <;> rfl
@[simp] theorem setMarks_link (s : State) (x : Axis) (ms : List Mark) : (s.setMarks x ms).link = s.link := by cases x <;> rfl
@[simp] theorem setMarks_pending (s : State) (x : Axis) (ms : List Mark) : (s.setMarks x ms).pending = s.pending := by cases x <;> rfl
@[simp] theorem setMarks_axis (s : State) (x : Axis) (ms : List Mark) : (s.setMarks x ms).axis x = { s.axis x with marks := ms } := by cases x <;> rfl
@[simp] theorem setMarks_axis_other (s : State) (x : Axis) (ms : List Mark) : (s.setMarks x ms).axis x.other = s.axis x.other := by cases x <;> rfl
theorem setMarks_axis_ne (s : State) (x y : Axis) (ms : List Mark) (h : y ≠ x) : (s.setMarks x ms).axis y = s.axis y := by
  cases x <;> cases y <;> first | rfl | exact absurd rfl h

/-! ### setReports -/

@[simp] theorem setReports_power (s : State) (x : Axis) (rs : List Report) : (s.setReports x rs).power = s.power := by cases x <;> rfl
@[simp] theorem setReports_resetLow (s : State) (x : Axis) (rs : List Report) : (s.setReports x rs).resetLow = s.resetLow := by cases x <;> rfl
@[simp] theorem setReports_pins (s : State) (x : Axis) (rs : List Report) : (s.setReports x rs).pins = s.pins := by cases x <;> rfl
@[simp] theorem setReports_profiles (s : State) (x : Axis) (rs : List Report) : (s.setReports x rs).profiles = s.profiles := by cases x <;> rfl
@[simp] theorem setReports_stations (s : State) (x : Axis) (rs : List Report) : (s.setReports x rs).stations = s.stations := by cases x <;> rfl
@[simp] theorem setReports_journal (s : State) (x : Axis) (rs : List Report) : (s.setReports x rs).journal = s.journal := by cases x <;> rfl
@[simp] theorem setReports_check (s : State) (x : Axis) (rs : List Report) : (s.setReports x rs).check = s.check := by cases x <;> rfl
@[simp] theorem setReports_coldFlag (s : State) (x : Axis) (rs : List Report) : (s.setReports x rs).coldFlag = s.coldFlag := by cases x <;> rfl
@[simp] theorem setReports_events (s : State) (x : Axis) (rs : List Report) : (s.setReports x rs).events = s.events := by cases x <;> rfl
@[simp] theorem setReports_settings (s : State) (x : Axis) (rs : List Report) : (s.setReports x rs).settings = s.settings := by cases x <;> rfl
@[simp] theorem setReports_link (s : State) (x : Axis) (rs : List Report) : (s.setReports x rs).link = s.link := by cases x <;> rfl
@[simp] theorem setReports_pending (s : State) (x : Axis) (rs : List Report) : (s.setReports x rs).pending = s.pending := by cases x <;> rfl
@[simp] theorem setReports_axis (s : State) (x : Axis) (rs : List Report) : (s.setReports x rs).axis x = { s.axis x with reports := rs } := by cases x <;> rfl
@[simp] theorem setReports_axis_other (s : State) (x : Axis) (rs : List Report) : (s.setReports x rs).axis x.other = s.axis x.other := by cases x <;> rfl
theorem setReports_axis_ne (s : State) (x y : Axis) (rs : List Report) (h : y ≠ x) : (s.setReports x rs).axis y = s.axis y := by
  cases x <;> cases y <;> first | rfl | exact absurd rfl h

/-! ### setLines -/

@[simp] theorem setLines_power (s : State) (x : Axis) (l : Lines) : (s.setLines x l).power = s.power := by cases x <;> rfl
@[simp] theorem setLines_resetLow (s : State) (x : Axis) (l : Lines) : (s.setLines x l).resetLow = s.resetLow := by cases x <;> rfl
@[simp] theorem setLines_pins (s : State) (x : Axis) (l : Lines) : (s.setLines x l).pins = s.pins := by cases x <;> rfl
@[simp] theorem setLines_profiles (s : State) (x : Axis) (l : Lines) : (s.setLines x l).profiles = s.profiles := by cases x <;> rfl
@[simp] theorem setLines_stations (s : State) (x : Axis) (l : Lines) : (s.setLines x l).stations = s.stations := by cases x <;> rfl
@[simp] theorem setLines_journal (s : State) (x : Axis) (l : Lines) : (s.setLines x l).journal = s.journal := by cases x <;> rfl
@[simp] theorem setLines_check (s : State) (x : Axis) (l : Lines) : (s.setLines x l).check = s.check := by cases x <;> rfl
@[simp] theorem setLines_coldFlag (s : State) (x : Axis) (l : Lines) : (s.setLines x l).coldFlag = s.coldFlag := by cases x <;> rfl
@[simp] theorem setLines_events (s : State) (x : Axis) (l : Lines) : (s.setLines x l).events = s.events := by cases x <;> rfl
@[simp] theorem setLines_settings (s : State) (x : Axis) (l : Lines) : (s.setLines x l).settings = s.settings := by cases x <;> rfl
@[simp] theorem setLines_link (s : State) (x : Axis) (l : Lines) : (s.setLines x l).link = s.link := by cases x <;> rfl
@[simp] theorem setLines_pending (s : State) (x : Axis) (l : Lines) : (s.setLines x l).pending = s.pending := by cases x <;> rfl
@[simp] theorem setLines_axis (s : State) (x : Axis) (l : Lines) : (s.setLines x l).axis x = { s.axis x with lines := l } := by cases x <;> rfl
@[simp] theorem setLines_axis_other (s : State) (x : Axis) (l : Lines) : (s.setLines x l).axis x.other = s.axis x.other := by cases x <;> rfl
theorem setLines_axis_ne (s : State) (x y : Axis) (l : Lines) (h : y ≠ x) : (s.setLines x l).axis y = s.axis y := by
  cases x <;> cases y <;> first | rfl | exact absurd rfl h

/-! ### seal -/

@[simp] theorem seal_power (s : State)  : (s.seal).power = s.power := rfl
@[simp] theorem seal_resetLow (s : State)  : (s.seal).resetLow = s.resetLow := rfl
@[simp] theorem seal_pins (s : State)  : (s.seal).pins = s.pins := rfl
@[simp] theorem seal_a (s : State)  : (s.seal).a = s.a := rfl
@[simp] theorem seal_b (s : State)  : (s.seal).b = s.b := rfl
@[simp] theorem seal_profiles (s : State)  : (s.seal).profiles = s.profiles := rfl
@[simp] theorem seal_stations (s : State)  : (s.seal).stations = s.stations := rfl
@[simp] theorem seal_journal (s : State)  : (s.seal).journal = s.journal := rfl
@[simp] theorem seal_check (s : State)  : (s.seal).check = s.retained := rfl
@[simp] theorem seal_coldFlag (s : State)  : (s.seal).coldFlag = s.coldFlag := rfl
@[simp] theorem seal_events (s : State)  : (s.seal).events = s.events := rfl
@[simp] theorem seal_settings (s : State)  : (s.seal).settings = s.settings := rfl
@[simp] theorem seal_link (s : State)  : (s.seal).link = s.link := rfl
@[simp] theorem seal_pending (s : State)  : (s.seal).pending = s.pending := rfl
@[simp] theorem seal_axis (s : State)  (x : Axis) : (s.seal).axis x = s.axis x := by cases x <;> rfl

/-! ### movePin -/

@[simp] theorem movePin_power (s : State) (r : Report) : (s.movePin r).power = s.power := rfl
@[simp] theorem movePin_resetLow (s : State) (r : Report) : (s.movePin r).resetLow = s.resetLow := rfl
@[simp] theorem movePin_pins (s : State) (r : Report) : (s.movePin r).pins = s.pins.report r := rfl
@[simp] theorem movePin_a (s : State) (r : Report) : (s.movePin r).a = s.a := rfl
@[simp] theorem movePin_b (s : State) (r : Report) : (s.movePin r).b = s.b := rfl
@[simp] theorem movePin_profiles (s : State) (r : Report) : (s.movePin r).profiles = s.profiles := rfl
@[simp] theorem movePin_stations (s : State) (r : Report) : (s.movePin r).stations = s.stations := rfl
@[simp] theorem movePin_journal (s : State) (r : Report) : (s.movePin r).journal = s.journal := rfl
@[simp] theorem movePin_check (s : State) (r : Report) : (s.movePin r).check = s.check := rfl
@[simp] theorem movePin_coldFlag (s : State) (r : Report) : (s.movePin r).coldFlag = s.coldFlag := rfl
@[simp] theorem movePin_events (s : State) (r : Report) : (s.movePin r).events = s.events := rfl
@[simp] theorem movePin_settings (s : State) (r : Report) : (s.movePin r).settings = s.settings := rfl
@[simp] theorem movePin_link (s : State) (r : Report) : (s.movePin r).link = s.link := rfl
@[simp] theorem movePin_pending (s : State) (r : Report) : (s.movePin r).pending = s.pending := rfl
@[simp] theorem movePin_axis (s : State) (r : Report) (x : Axis) : (s.movePin r).axis x = s.axis x := by cases x <;> rfl

/-! ### lineChanges -/

@[simp] theorem lineChanges_power (s : State) (r : Report) : (s.lineChanges r).power = s.power := rfl
@[simp] theorem lineChanges_resetLow (s : State) (r : Report) : (s.lineChanges r).resetLow = s.resetLow := rfl
@[simp] theorem lineChanges_pins (s : State) (r : Report) : (s.lineChanges r).pins = s.pins.report r := rfl
@[simp] theorem lineChanges_profiles (s : State) (r : Report) : (s.lineChanges r).profiles = s.profiles := rfl
@[simp] theorem lineChanges_stations (s : State) (r : Report) : (s.lineChanges r).stations = s.stations := rfl
@[simp] theorem lineChanges_journal (s : State) (r : Report) : (s.lineChanges r).journal = s.journal := rfl
@[simp] theorem lineChanges_check (s : State) (r : Report) : (s.lineChanges r).check = s.check := rfl
@[simp] theorem lineChanges_coldFlag (s : State) (r : Report) : (s.lineChanges r).coldFlag = s.coldFlag := rfl
@[simp] theorem lineChanges_events (s : State) (r : Report) : (s.lineChanges r).events = s.events := rfl
@[simp] theorem lineChanges_settings (s : State) (r : Report) : (s.lineChanges r).settings = s.settings := rfl
@[simp] theorem lineChanges_link (s : State) (r : Report) : (s.lineChanges r).link = s.link := rfl
@[simp] theorem lineChanges_pending (s : State) (r : Report) : (s.lineChanges r).pending = s.pending := rfl
@[simp] theorem lineChanges_axis (s : State) (r : Report) (x : Axis) :
    (s.lineChanges r).axis x = { s.axis x with reports := (s.axis x).reports ++ [r] } := by cases x <;> rfl

/-! ### setJournal -/

@[simp] theorem setJournal_power (s : State) (j : Journal) : (s.setJournal j).power = s.power := rfl
@[simp] theorem setJournal_resetLow (s : State) (j : Journal) : (s.setJournal j).resetLow = s.resetLow := rfl
@[simp] theorem setJournal_pins (s : State) (j : Journal) : (s.setJournal j).pins = s.pins := rfl
@[simp] theorem setJournal_a (s : State) (j : Journal) : (s.setJournal j).a = s.a := rfl
@[simp] theorem setJournal_b (s : State) (j : Journal) : (s.setJournal j).b = s.b := rfl
@[simp] theorem setJournal_profiles (s : State) (j : Journal) : (s.setJournal j).profiles = s.profiles := rfl
@[simp] theorem setJournal_stations (s : State) (j : Journal) : (s.setJournal j).stations = s.stations := rfl
@[simp] theorem setJournal_journal (s : State) (j : Journal) : (s.setJournal j).journal = j := rfl
@[simp] theorem setJournal_coldFlag (s : State) (j : Journal) : (s.setJournal j).coldFlag = s.coldFlag := rfl
@[simp] theorem setJournal_events (s : State) (j : Journal) : (s.setJournal j).events = s.events := rfl
@[simp] theorem setJournal_settings (s : State) (j : Journal) : (s.setJournal j).settings = s.settings := rfl
@[simp] theorem setJournal_link (s : State) (j : Journal) : (s.setJournal j).link = s.link := rfl
@[simp] theorem setJournal_pending (s : State) (j : Journal) : (s.setJournal j).pending = s.pending := rfl
@[simp] theorem setJournal_axis (s : State) (j : Journal) (x : Axis) : (s.setJournal j).axis x = s.axis x := by cases x <;> rfl

/-! ### setEvent -/

@[simp] theorem setEvent_power (s : State) (e : Event) : (s.setEvent e).power = s.power := rfl
@[simp] theorem setEvent_resetLow (s : State) (e : Event) : (s.setEvent e).resetLow = s.resetLow := rfl
@[simp] theorem setEvent_pins (s : State) (e : Event) : (s.setEvent e).pins = s.pins := rfl
@[simp] theorem setEvent_a (s : State) (e : Event) : (s.setEvent e).a = s.a := rfl
@[simp] theorem setEvent_b (s : State) (e : Event) : (s.setEvent e).b = s.b := rfl
@[simp] theorem setEvent_profiles (s : State) (e : Event) : (s.setEvent e).profiles = s.profiles := rfl
@[simp] theorem setEvent_stations (s : State) (e : Event) : (s.setEvent e).stations = s.stations := rfl
@[simp] theorem setEvent_journal (s : State) (e : Event) : (s.setEvent e).journal = s.journal := rfl
@[simp] theorem setEvent_check (s : State) (e : Event) : (s.setEvent e).check = s.check := rfl
@[simp] theorem setEvent_coldFlag (s : State) (e : Event) : (s.setEvent e).coldFlag = s.coldFlag := rfl
@[simp] theorem setEvent_events (s : State) (e : Event) : (s.setEvent e).events = s.events ||| e.mask := rfl
@[simp] theorem setEvent_settings (s : State) (e : Event) : (s.setEvent e).settings = s.settings := rfl
@[simp] theorem setEvent_link (s : State) (e : Event) : (s.setEvent e).link = s.link := rfl
@[simp] theorem setEvent_pending (s : State) (e : Event) : (s.setEvent e).pending = s.pending := rfl
@[simp] theorem setEvent_axis (s : State) (e : Event) (x : Axis) : (s.setEvent e).axis x = s.axis x := by cases x <;> rfl

/-! ### withLink -/

@[simp] theorem withLink_power (s : State) (l : Link) : (s.withLink l).power = s.power := rfl
@[simp] theorem withLink_resetLow (s : State) (l : Link) : (s.withLink l).resetLow = s.resetLow := rfl
@[simp] theorem withLink_pins (s : State) (l : Link) : (s.withLink l).pins = s.pins := rfl
@[simp] theorem withLink_a (s : State) (l : Link) : (s.withLink l).a = s.a := rfl
@[simp] theorem withLink_b (s : State) (l : Link) : (s.withLink l).b = s.b := rfl
@[simp] theorem withLink_profiles (s : State) (l : Link) : (s.withLink l).profiles = s.profiles := rfl
@[simp] theorem withLink_stations (s : State) (l : Link) : (s.withLink l).stations = s.stations := rfl
@[simp] theorem withLink_journal (s : State) (l : Link) : (s.withLink l).journal = s.journal := rfl
@[simp] theorem withLink_check (s : State) (l : Link) : (s.withLink l).check = s.check := rfl
@[simp] theorem withLink_coldFlag (s : State) (l : Link) : (s.withLink l).coldFlag = s.coldFlag := rfl
@[simp] theorem withLink_events (s : State) (l : Link) : (s.withLink l).events = s.events := rfl
@[simp] theorem withLink_settings (s : State) (l : Link) : (s.withLink l).settings = s.settings := rfl
@[simp] theorem withLink_link (s : State) (l : Link) : (s.withLink l).link = l := rfl
@[simp] theorem withLink_pending (s : State) (l : Link) : (s.withLink l).pending = s.pending := rfl
@[simp] theorem withLink_axis (s : State) (l : Link) (x : Axis) : (s.withLink l).axis x = s.axis x := by cases x <;> rfl

/-! ### chipSelectHigh -/

@[simp] theorem chipSelectHigh_power (s : State)  : (s.chipSelectHigh).power = s.power := rfl
@[simp] theorem chipSelectHigh_resetLow (s : State)  : (s.chipSelectHigh).resetLow = s.resetLow := rfl
@[simp] theorem chipSelectHigh_pins (s : State)  : (s.chipSelectHigh).pins = s.pins := rfl
@[simp] theorem chipSelectHigh_a (s : State)  : (s.chipSelectHigh).a = s.a := rfl
@[simp] theorem chipSelectHigh_b (s : State)  : (s.chipSelectHigh).b = s.b := rfl
@[simp] theorem chipSelectHigh_profiles (s : State)  : (s.chipSelectHigh).profiles = s.profiles := rfl
@[simp] theorem chipSelectHigh_stations (s : State)  : (s.chipSelectHigh).stations = s.stations := rfl
@[simp] theorem chipSelectHigh_journal (s : State)  : (s.chipSelectHigh).journal = s.journal := rfl
@[simp] theorem chipSelectHigh_check (s : State)  : (s.chipSelectHigh).check = s.check := rfl
@[simp] theorem chipSelectHigh_coldFlag (s : State)  : (s.chipSelectHigh).coldFlag = s.coldFlag := rfl
@[simp] theorem chipSelectHigh_events (s : State)  : (s.chipSelectHigh).events = s.events := rfl
@[simp] theorem chipSelectHigh_settings (s : State)  : (s.chipSelectHigh).settings = s.settings := rfl
@[simp] theorem chipSelectHigh_link (s : State)  : (s.chipSelectHigh).link = { s.link with chipSelect := .high } := rfl
@[simp] theorem chipSelectHigh_pending (s : State)  : (s.chipSelectHigh).pending = s.pending := rfl
@[simp] theorem chipSelectHigh_axis (s : State)  (x : Axis) : (s.chipSelectHigh).axis x = s.axis x := by cases x <;> rfl

/-! ### grantReservation -/

@[simp] theorem grantReservation_power (s : State)  : (s.grantReservation).power = s.power := rfl
@[simp] theorem grantReservation_resetLow (s : State)  : (s.grantReservation).resetLow = s.resetLow := rfl
@[simp] theorem grantReservation_pins (s : State)  : (s.grantReservation).pins = s.pins := rfl
@[simp] theorem grantReservation_a (s : State)  : (s.grantReservation).a = s.a := rfl
@[simp] theorem grantReservation_b (s : State)  : (s.grantReservation).b = s.b := rfl
@[simp] theorem grantReservation_profiles (s : State)  : (s.grantReservation).profiles = s.profiles := rfl
@[simp] theorem grantReservation_stations (s : State)  : (s.grantReservation).stations = s.stations := rfl
@[simp] theorem grantReservation_journal (s : State)  : (s.grantReservation).journal = { s.journal with reserved := s.journal.reserved + 1 } := rfl
@[simp] theorem grantReservation_check (s : State)  : (s.grantReservation).check = s.check := rfl
@[simp] theorem grantReservation_coldFlag (s : State)  : (s.grantReservation).coldFlag = s.coldFlag := rfl
@[simp] theorem grantReservation_events (s : State)  : (s.grantReservation).events = s.events := rfl
@[simp] theorem grantReservation_settings (s : State)  : (s.grantReservation).settings = s.settings := rfl
@[simp] theorem grantReservation_link (s : State)  : (s.grantReservation).link = s.link := rfl
@[simp] theorem grantReservation_pending (s : State)  : (s.grantReservation).pending = s.pending := rfl
@[simp] theorem grantReservation_axis (s : State)  (x : Axis) : (s.grantReservation).axis x = s.axis x := by cases x <;> rfl

/-! ### leaveWaitList -/

@[simp] theorem leaveWaitList_power (s : State) (y : Axis) : (s.leaveWaitList y).power = s.power := rfl
@[simp] theorem leaveWaitList_resetLow (s : State) (y : Axis) : (s.leaveWaitList y).resetLow = s.resetLow := rfl
@[simp] theorem leaveWaitList_pins (s : State) (y : Axis) : (s.leaveWaitList y).pins = s.pins := rfl
@[simp] theorem leaveWaitList_a (s : State) (y : Axis) : (s.leaveWaitList y).a = s.a := rfl
@[simp] theorem leaveWaitList_b (s : State) (y : Axis) : (s.leaveWaitList y).b = s.b := rfl
@[simp] theorem leaveWaitList_profiles (s : State) (y : Axis) : (s.leaveWaitList y).profiles = s.profiles := rfl
@[simp] theorem leaveWaitList_stations (s : State) (y : Axis) : (s.leaveWaitList y).stations = s.stations := rfl
@[simp] theorem leaveWaitList_journal (s : State) (y : Axis) : (s.leaveWaitList y).journal = { s.journal with waitList := s.journal.waitList.filter (fun z => z != y) } := rfl
@[simp] theorem leaveWaitList_check (s : State) (y : Axis) : (s.leaveWaitList y).check = s.check := rfl
@[simp] theorem leaveWaitList_coldFlag (s : State) (y : Axis) : (s.leaveWaitList y).coldFlag = s.coldFlag := rfl
@[simp] theorem leaveWaitList_events (s : State) (y : Axis) : (s.leaveWaitList y).events = s.events := rfl
@[simp] theorem leaveWaitList_settings (s : State) (y : Axis) : (s.leaveWaitList y).settings = s.settings := rfl
@[simp] theorem leaveWaitList_link (s : State) (y : Axis) : (s.leaveWaitList y).link = s.link := rfl
@[simp] theorem leaveWaitList_pending (s : State) (y : Axis) : (s.leaveWaitList y).pending = s.pending := rfl
@[simp] theorem leaveWaitList_axis (s : State) (y : Axis) (x : Axis) : (s.leaveWaitList y).axis x = s.axis x := by cases x <;> rfl

/-! ### The retained set -/

@[simp] theorem setEvent_retained (s : State) (e : Event) : (s.setEvent e).retained = s.retained := rfl
@[simp] theorem withLink_retained (s : State) (l : Link) : (s.withLink l).retained = s.retained := rfl
@[simp] theorem seal_retained (s : State) : s.seal.retained = s.retained := rfl
theorem seal_checkLaw (s : State) : s.seal.CheckLaw := rfl

/-- A change of an axis that leaves its counter leaves the retained set. -/
theorem onAxis_retained (s : State) (x : Axis) (f : AxisUnit → AxisUnit) (h : (f (s.axis x)).position = (s.axis x).position) :
    (s.onAxis x f).retained = s.retained := by
  cases x <;> simp_all [State.retained, State.onAxis, State.setAxis]

/-- Two parts with the same axis put back are the same. -/
@[simp] theorem setAxis_self (s : State) (x : Axis) : s.setAxis x (s.axis x) = s := by cases x <;> rfl

@[simp] theorem onAxis_onAxis (s : State) (x : Axis) (f g : AxisUnit → AxisUnit) :
    (s.onAxis x f).onAxis x g = s.onAxis x (fun u => g (f u)) := by cases x <;> rfl

theorem setAxisState_eq (s : State) (x : Axis) (st : AxisState) :
    s.setAxisState x st = s.onAxis x (fun u => { u with state := st }) := rfl

theorem setSlot_eq (s : State) (x : Axis) (sl : Option Slot) : s.setSlot x sl = s.onAxis x (fun u => { u with slot := sl }) := rfl

theorem setQueue_eq (s : State) (x : Axis) (q : List Move) : s.setQueue x q = s.onAxis x (fun u => { u with queue := q }) := rfl

theorem setMarks_eq (s : State) (x : Axis) (ms : List Mark) : s.setMarks x ms = s.onAxis x (fun u => { u with marks := ms }) := rfl

end Sys2Proof.Machine
end

