-- ==== Sys2Proof/Laws/Journal.lean ====
section
/-! SUPPORT. What the journal's shared operations do, and the relation Kept: what every operation of an engine keeps. -/

namespace Sys2Proof.Machine

/-! ### What engine operations keep -/

/-- The registers that no operation of an engine reaches, the outstanding reports as they were, the held records kept in place with others added after them, and the check code
matching where it matched. -/
structure State.Kept (s t : State) : Prop where
  power : t.power = s.power
  resetLow : t.resetLow = s.resetLow
  pins : t.pins = s.pins
  profiles : t.profiles = s.profiles
  stations : t.stations = s.stations
  coldFlag : t.coldFlag = s.coldFlag
  settings : t.settings = s.settings
  link : t.link = s.link
  pending : t.pending = s.pending
  reportsA : t.a.reports = s.a.reports
  reportsB : t.b.reports = s.b.reports
  records : s.journal.records <+: t.journal.records
  check : s.CheckLaw → t.CheckLaw

theorem State.Kept.refl (s : State) : s.Kept s :=
  ⟨rfl, rfl, rfl, rfl, rfl, rfl, rfl, rfl, rfl, rfl, rfl, List.prefix_rfl, id⟩

theorem State.Kept.trans {s t u : State} (h : s.Kept t) (k : t.Kept u) : s.Kept u :=
  ⟨k.power.trans h.power, k.resetLow.trans h.resetLow, k.pins.trans h.pins, k.profiles.trans h.profiles,
    k.stations.trans h.stations, k.coldFlag.trans h.coldFlag, k.settings.trans h.settings, k.link.trans h.link,
    k.pending.trans h.pending, k.reportsA.trans h.reportsA, k.reportsB.trans h.reportsB, h.records.trans k.records, fun c => k.check (h.check c)⟩

theorem State.Kept.reports {s t : State} (h : s.Kept t) (x : Axis) : (t.axis x).reports = (s.axis x).reports := by
  cases x
  · exact h.reportsA
  · exact h.reportsB

/-- A change of one axis that leaves its counter and its outstanding reports keeps all of it. -/
theorem onAxis_kept (s : State) (x : Axis) (f : AxisUnit → AxisUnit) (h : (f (s.axis x)).position = (s.axis x).position)
    (hr : (f (s.axis x)).reports = (s.axis x).reports) : s.Kept (s.onAxis x f) := by
  refine ⟨?_, ?_, ?_, ?_, ?_, ?_, ?_, ?_, ?_, ?_, ?_, ?_, fun hc => ?_⟩
  case refine_13 =>
    simp only [State.CheckLaw, onAxis_check, onAxis_retained s x f h]
    exact hc
  case refine_10 => cases x <;> first | exact hr | rfl
  case refine_11 => cases x <;> first | exact hr | rfl
  all_goals simp

theorem setAxisState_kept (s : State) (x : Axis) (st : AxisState) : s.Kept (s.setAxisState x st) := onAxis_kept s x _ rfl rfl
theorem setSlot_kept (s : State) (x : Axis) (sl : Option Slot) : s.Kept (s.setSlot x sl) := onAxis_kept s x _ rfl rfl
theorem setQueue_kept (s : State) (x : Axis) (q : List Move) : s.Kept (s.setQueue x q) := onAxis_kept s x _ rfl rfl
theorem setMarks_kept (s : State) (x : Axis) (ms : List Mark) : s.Kept (s.setMarks x ms) := onAxis_kept s x _ rfl rfl
theorem setLines_kept (s : State) (x : Axis) (l : Lines) : s.Kept (s.setLines x l) := onAxis_kept s x _ rfl rfl

theorem setEvent_kept (s : State) (e : Event) : s.Kept (s.setEvent e) :=
  ⟨rfl, rfl, rfl, rfl, rfl, rfl, rfl, rfl, rfl, rfl, rfl, List.prefix_rfl, id⟩

theorem setCounter_kept (s : State) (x : Axis) (p : Word) : s.Kept (s.setCounter x p) := by
  refine ⟨?_, ?_, ?_, ?_, ?_, ?_, ?_, ?_, ?_, ?_, ?_, ?_, fun _ => rfl⟩ <;> first | (simp [State.setCounter]; done) | (cases x <;> rfl)

theorem grantReservation_kept (s : State) : s.Kept s.grantReservation :=
  ⟨rfl, rfl, rfl, rfl, rfl, rfl, rfl, rfl, rfl, rfl, rfl, List.prefix_rfl, id⟩

theorem leaveWaitList_kept (s : State) (x : Axis) : s.Kept (s.leaveWaitList x) :=
  ⟨rfl, rfl, rfl, rfl, rfl, rfl, rfl, rfl, rfl, rfl, rfl, List.prefix_rfl, id⟩

theorem joinWaitList_kept (s : State) (x : Axis) : s.Kept (s.joinWaitList x) := by
  refine State.Kept.trans (t := { s with journal := { s.journal with waitList := s.journal.waitList ++ [x] } })
    ⟨rfl, rfl, rfl, rfl, rfl, rfl, rfl, rfl, rfl, rfl, rfl, List.prefix_rfl, id⟩ (setAxisState_kept _ x .blocked)

/-! ### Records -/

/-- A written record's whole effect (R139, R157). -/
theorem writeRecord_eq (s : State) (e : Entry) :
    s.writeRecord e =
      { (s.setJournal { s.journal with records := s.journal.records ++ [⟨s.journal.seq, e⟩], seq := s.journal.seq + 1#16 }) with
        events := if s.settings.threshold.toNat ≤ s.journal.records.length + 1 then s.events ||| 8#8 else s.events } := by
  simp only [State.writeRecord, State.thresholdTest, setJournal_settings, setJournal_journal, List.length_append,
    List.length_singleton]
  split <;> rfl

/-- A dropped record's whole effect (R143, R158). -/
theorem dropRecord_eq (s : State) :
    s.dropRecord =
      { (s.setJournal { s.journal with lost := min (s.journal.lost + 1) Config.countLimit }) with
        events := if s.journal.lost = 0 then s.events ||| 4#8 else s.events } := by
  simp only [State.dropRecord]
  split <;> rfl

/-- A converted reservation's whole effect (R141). -/
theorem convertReservation_eq (s : State) (e : Entry) :
    s.convertReservation e = State.writeRecord { s with journal := { s.journal with reserved := s.journal.reserved - 1 } } e := rfl

/-- The admission rule: held plus reserved at 125 or less (R142). -/
theorem admits_iff (j : Journal) : j.admits = true ↔ j.records.length + j.reserved ≤ 125 := by
  unfold Journal.admits
  rw [decide_eq_true_iff]
  simp only [Journal.total, Config.admissionLimit]
  omega

theorem offerRecord_of_room (s : State) (e : Entry) (h : s.journal.records.length + s.journal.reserved ≤ 125) :
    s.offerRecord e = s.writeRecord e := by
  simp [State.offerRecord, (admits_iff _).2 h]

theorem offerRecord_of_full (s : State) (e : Entry) (h : 126 ≤ s.journal.records.length + s.journal.reserved) :
    s.offerRecord e = s.dropRecord := by
  have : s.journal.admits = false := by
    rw [Bool.eq_false_iff, Ne, admits_iff]; omega
  simp [State.offerRecord, this]

theorem writeRecord_kept (s : State) (e : Entry) : s.Kept (s.writeRecord e) := by
  rw [writeRecord_eq]
  exact ⟨rfl, rfl, rfl, rfl, rfl, rfl, rfl, rfl, rfl, rfl, rfl, List.prefix_append _ _, fun _ => rfl⟩

theorem dropRecord_kept (s : State) : s.Kept s.dropRecord := by
  rw [dropRecord_eq]
  exact ⟨rfl, rfl, rfl, rfl, rfl, rfl, rfl, rfl, rfl, rfl, rfl, List.prefix_rfl, fun _ => rfl⟩

theorem offerRecord_kept (s : State) (e : Entry) : s.Kept (s.offerRecord e) := by
  simp only [State.offerRecord]; split
  · exact writeRecord_kept s e
  · exact dropRecord_kept s

theorem convertReservation_kept (s : State) (e : Entry) : s.Kept (s.convertReservation e) :=
  State.Kept.trans (t := { s with journal := { s.journal with reserved := s.journal.reserved - 1 } })
    ⟨rfl, rfl, rfl, rfl, rfl, rfl, rfl, rfl, rfl, rfl, rfl, List.prefix_rfl, id⟩ (writeRecord_kept _ e)

@[simp] theorem writeRecord_axis (s : State) (e : Entry) (x : Axis) : (s.writeRecord e).axis x = s.axis x := by
  rw [writeRecord_eq]; cases x <;> rfl

@[simp] theorem dropRecord_axis (s : State) (x : Axis) : s.dropRecord.axis x = s.axis x := by
  rw [dropRecord_eq]; cases x <;> rfl

@[simp] theorem offerRecord_axis (s : State) (e : Entry) (x : Axis) : (s.offerRecord e).axis x = s.axis x := by
  simp only [State.offerRecord]; split <;> simp

@[simp] theorem convertReservation_axis (s : State) (e : Entry) (x : Axis) : (s.convertReservation e).axis x = s.axis x := by
  rw [convertReservation_eq, writeRecord_axis]; cases x <;> rfl

@[simp] theorem writeRecord_waitList (s : State) (e : Entry) : (s.writeRecord e).journal.waitList = s.journal.waitList := by
  rw [writeRecord_eq]; rfl
@[simp] theorem writeRecord_lost (s : State) (e : Entry) : (s.writeRecord e).journal.lost = s.journal.lost := by
  rw [writeRecord_eq]; rfl
@[simp] theorem writeRecord_reserved (s : State) (e : Entry) : (s.writeRecord e).journal.reserved = s.journal.reserved := by
  rw [writeRecord_eq]; rfl
@[simp] theorem writeRecord_records (s : State) (e : Entry) :
    (s.writeRecord e).journal.records = s.journal.records ++ [⟨s.journal.seq, e⟩] := by
  rw [writeRecord_eq]; rfl
@[simp] theorem writeRecord_seq (s : State) (e : Entry) : (s.writeRecord e).journal.seq = s.journal.seq + 1#16 := by
  rw [writeRecord_eq]; rfl

end Sys2Proof.Machine
end

