-- ==== Sys2Proof/Laws/Engine.lean ====
section
/-! SUPPORT. What each operation of an engine keeps, and that it leaves the other axis alone. -/

namespace Sys2Proof.Machine

/-! ### Flushing -/

theorem unblockFlushed_kept (s : State) (x : Axis) : s.Kept (s.unblockFlushed x) := by
  simp only [State.unblockFlushed]; split
  · exact (leaveWaitList_kept s x).trans (setAxisState_kept _ x .idle)
  · exact .refl s

theorem flushQueue_kept (s : State) (x : Axis) (cause : Cause) : s.Kept (s.flushQueue x cause) := by
  simp only [State.flushQueue]; split
  · exact .refl s
  · exact ((setQueue_kept s x []).trans (unblockFlushed_kept _ x)).trans (offerRecord_kept _ _)

@[simp] theorem unblockFlushed_axis_other (s : State) (x : Axis) : (s.unblockFlushed x).axis x.other = s.axis x.other := by
  simp only [State.unblockFlushed]; split <;> simp

@[simp] theorem flushQueue_axis_other (s : State) (x : Axis) (cause : Cause) :
    (s.flushQueue x cause).axis x.other = s.axis x.other := by
  simp only [State.flushQueue]; split <;> simp

/-! ### Endings -/

theorem moveOn_kept (s : State) (x : Axis) (after : AfterAction) : s.Kept (s.moveOn x after) := by
  have h : ∀ st, s.Kept ((s.setSlot x none).setAxisState x st) := fun st =>
    (setSlot_kept s x none).trans (setAxisState_kept _ x st)
  cases after <;> simp only [State.moveOn]
  · split
    · exact (h .idle).trans (setEvent_kept _ _)
    · exact h .idle
  · exact (h .halted).trans (setEvent_kept _ _)
  · exact ((h .halted).trans (flushQueue_kept _ x .hostStop)).trans (setEvent_kept _ _)

@[simp] theorem moveOn_axis_other (s : State) (x : Axis) (after : AfterAction) :
    (s.moveOn x after).axis x.other = s.axis x.other := by
  cases after <;> simp only [State.moveOn]
  · split <;> simp
  · simp
  · simp

theorem endMove_kept (s : State) (x : Axis) (kind : RecordKind) (cause : Cause) (after : AfterAction) :
    s.Kept (s.endMove x kind cause after) := by
  simp only [State.endMove]; split
  · exact .refl s
  · exact (convertReservation_kept s _).trans (moveOn_kept _ x after)

@[simp] theorem endMove_axis_other (s : State) (x : Axis) (kind : RecordKind) (cause : Cause) (after : AfterAction) :
    (s.endMove x kind cause after).axis x.other = s.axis x.other := by
  simp only [State.endMove]; split <;> simp

theorem endByStop_kept (s : State) (x : Axis) (cause : Cause) (after : AfterAction) : s.Kept (s.endByStop x cause after) :=
  endMove_kept s x _ cause after

@[simp] theorem endByStop_axis_other (s : State) (x : Axis) (cause : Cause) (after : AfterAction) :
    (s.endByStop x cause after).axis x.other = s.axis x.other := endMove_axis_other s x _ cause after

theorem haltWithoutMove_kept (s : State) (x : Axis) (cause : Cause) (flush : Bool) : s.Kept (s.haltWithoutMove x cause flush) := by
  have h : ∀ t : State, s.Kept t → ∀ e, s.Kept ((t.setAxisState x .halted).offerRecord e) := fun t ht e =>
    (ht.trans (setAxisState_kept t x .halted)).trans (offerRecord_kept _ e)
  simp only [State.haltWithoutMove]
  refine State.Kept.trans ?_ (setEvent_kept _ _)
  have h1 : s.Kept (if (s.axis x).state = .blocked then s.leaveWaitList x else s) := by
    split
    · exact leaveWaitList_kept s x
    · exact .refl s
  cases flush
  · exact h _ h1 _
  · exact (h _ h1 _).trans (flushQueue_kept _ x .hostStop)

@[simp] theorem haltWithoutMove_axis_other (s : State) (x : Axis) (cause : Cause) (flush : Bool) :
    (s.haltWithoutMove x cause flush).axis x.other = s.axis x.other := by
  simp only [State.haltWithoutMove]
  cases flush <;> simp <;> split <;> simp

/-! ### Stops -/

theorem takeStop_kept (s : State) (x : Axis) (r : PendingStop) : s.Kept (s.takeStop x r) := by
  simp only [State.takeStop]
  repeat' split
  all_goals first
    | exact .refl s
    | exact endByStop_kept s x _ _
    | exact (setSlot_kept s x _).trans (setAxisState_kept _ x _)
    | exact setSlot_kept s x _

@[simp] theorem takeStop_axis_other (s : State) (x : Axis) (r : PendingStop) :
    (s.takeStop x r).axis x.other = s.axis x.other := by
  simp only [State.takeStop]
  repeat' split
  all_goals simp

theorem hostStop_kept (s : State) (x : Axis) (style : Style) (after : AfterAction) : s.Kept (s.hostStop x style after) := by
  simp only [State.hostStop]
  repeat' split
  all_goals first
    | exact .refl s
    | exact haltWithoutMove_kept s x _ _
    | exact takeStop_kept s x _
    | exact flushQueue_kept s x _

@[simp] theorem hostStop_axis_other (s : State) (x : Axis) (style : Style) (after : AfterAction) :
    (s.hostStop x style after).axis x.other = s.axis x.other := by
  simp only [State.hostStop]
  repeat' split
  all_goals simp

theorem emergencyStop_kept (s : State) (x : Axis) : s.Kept (s.emergencyStop x) := by
  simp only [State.emergencyStop]
  split
  all_goals first
    | exact .refl s
    | exact haltWithoutMove_kept s x _ _
    | exact takeStop_kept s x _

@[simp] theorem emergencyStop_axis_other (s : State) (x : Axis) : (s.emergencyStop x).axis x.other = s.axis x.other := by
  simp only [State.emergencyStop]; split <;> simp

theorem limitStop_kept (s : State) (x : Axis) (side : Direction) : s.Kept (s.limitStop x side) := by
  simp only [State.limitStop]
  repeat' split
  all_goals first
    | exact .refl s
    | exact takeStop_kept s x _

@[simp] theorem limitStop_axis_other (s : State) (x : Axis) (side : Direction) :
    (s.limitStop x side).axis x.other = s.axis x.other := by
  simp only [State.limitStop]
  repeat' split
  all_goals simp

/-! ### Home -/

theorem captureOnce_kept (s : State) (x : Axis) (sl : Slot) : s.Kept (s.captureOnce x sl) := by
  simp only [State.captureOnce, State.capture]; split
  · exact (setSlot_kept s x _).trans (setCounter_kept _ x _)
  · exact .refl s

@[simp] theorem setCounter_axis_other (s : State) (x : Axis) (p : Word) : (s.setCounter x p).axis x.other = s.axis x.other := by
  simp [State.setCounter]

@[simp] theorem captureOnce_axis_other (s : State) (x : Axis) (sl : Slot) :
    (s.captureOnce x sl).axis x.other = s.axis x.other := by
  simp only [State.captureOnce, State.capture]; split <;> simp

theorem homeFound_kept (s : State) (x : Axis) : s.Kept (s.homeFound x) := by
  simp only [State.homeFound, State.mergeHomeFound]
  repeat' split
  all_goals first
    | exact .refl s
    | exact (captureOnce_kept s x _).trans (takeStop_kept _ x _)
    | exact (captureOnce_kept s x _).trans (setSlot_kept _ x _)
    | exact captureOnce_kept s x _

@[simp] theorem homeFound_axis_other (s : State) (x : Axis) : (s.homeFound x).axis x.other = s.axis x.other := by
  simp only [State.homeFound, State.mergeHomeFound]
  repeat' split
  all_goals simp

/-! ### Starts and admission -/

theorem startMove_kept (s : State) (x : Axis) : s.Kept (s.startMove x) := by
  simp only [State.startMove]
  repeat' split
  all_goals first
    | exact .refl s
    | exact endMove_kept s x _ _ _
    | exact (captureOnce_kept s x _).trans (endMove_kept _ x _ _ _)
    | exact (setSlot_kept s x _).trans (setAxisState_kept _ x _)
    | exact onAxis_kept s x _ rfl rfl

@[simp] theorem startMove_axis_other (s : State) (x : Axis) : (s.startMove x).axis x.other = s.axis x.other := by
  simp only [State.startMove]
  repeat' split
  all_goals simp

theorem decidePair_kept (s : State) (slA slB : Slot) : s.Kept (s.decidePair slA slB) := by
  simp only [State.decidePair]
  repeat' split
  all_goals first
    | exact (endMove_kept s _ _ _ _).trans (endMove_kept _ _ _ _ _)
    | exact (startMove_kept s _).trans (startMove_kept _ _)

theorem loadArmTimer_kept (s : State) (x : Axis) (sl : Slot) : s.Kept (s.loadArmTimer x sl) := setSlot_kept s x _

theorem arrivePair_kept (s : State) (x : Axis) (sl : Slot) : s.Kept (s.arrivePair x sl) := by
  simp only [State.arrivePair]
  split
  · exact loadArmTimer_kept s x sl
  · cases x <;> exact decidePair_kept s _ _

theorem installMove_kept (s : State) (x : Axis) (rest : List Move) (sl : Slot) : s.Kept (s.installMove x rest sl) :=
  onAxis_kept s x _ rfl rfl

theorem admitHead_kept (s : State) (x : Axis) : s.Kept (s.admitHead x) := by
  have h : ∀ rest sl, s.Kept (s.grantReservation.installMove x rest sl) := fun rest sl =>
    (grantReservation_kept s).trans (installMove_kept _ x rest sl)
  simp only [State.admitHead]
  repeat' split
  all_goals first
    | exact .refl s
    | exact (h _ _).trans (endMove_kept _ x _ _ _)
    | exact (h _ _).trans (startMove_kept _ x)
    | exact (h _ _).trans (loadArmTimer_kept _ x _)
    | exact (h _ _).trans (arrivePair_kept _ x _)

theorem attemptAdmission_kept (s : State) (x : Axis) : s.Kept (s.attemptAdmission x) := by
  simp only [State.attemptAdmission]
  repeat' split
  · exact admitHead_kept s x
  · exact joinWaitList_kept s x
  · exact .refl s

/-! ### Pulses and timers -/

theorem offerMarks_kept (x : Axis) (tag : Half) (pulses : Word) (ms : List Mark) (s : State) :
    s.Kept (s.offerMarks x tag pulses ms) := by
  induction ms generalizing s with
  | nil => exact .refl s
  | cons m rest ih => exact (offerRecord_kept s _).trans (ih _)

@[simp] theorem offerMarks_axis (x : Axis) (tag : Half) (pulses : Word) (ms : List Mark) (s : State) (y : Axis) :
    (s.offerMarks x tag pulses ms).axis y = s.axis y := by
  induction ms generalizing s with
  | nil => rfl
  | cons m rest ih => simp [State.offerMarks, ih]

/-- The MARK records of a pulse are offered one after another (R119). -/
theorem offerMarks_eq_foldl (x : Axis) (tag : Half) (pulses : Word) (ms : List Mark) (s : State) :
    s.offerMarks x tag pulses ms = ms.foldl (fun t m => t.offerRecord (Entry.mark x m tag pulses)) s := by
  induction ms generalizing s with
  | nil => rfl
  | cons m rest ih => simp [State.offerMarks, ih]

theorem fireMarks_kept (s : State) (x : Axis) (sl : Slot) (d : Direction) : s.Kept (s.fireMarks x sl d) :=
  (setMarks_kept s x _).trans (offerMarks_kept x _ _ _ _)

theorem stepOut_kept (s : State) (x : Axis) (sl : Slot) (d : Direction) : s.Kept (s.stepOut x sl d) :=
  (onAxis_kept s x _ rfl rfl).trans (setCounter_kept _ x _)

theorem afterPulse_kept (s : State) (x : Axis) (sl : Slot) : s.Kept (s.afterPulse x sl) := by
  simp only [State.afterPulse, State.endByCount]
  repeat' split
  all_goals first
    | exact endByStop_kept s x _ _
    | exact endMove_kept s x _ _ _
    | exact setSlot_kept s x _

@[simp] theorem afterPulse_axis_other (s : State) (x : Axis) (sl : Slot) :
    (s.afterPulse x sl).axis x.other = s.axis x.other := by
  simp only [State.afterPulse, State.endByCount]
  repeat' split
  all_goals simp

theorem emitPulse_kept (s : State) (x : Axis) : s.Kept (s.emitPulse x) := by
  simp only [State.emitPulse]
  repeat' split
  all_goals first
    | exact .refl s
    | exact ((stepOut_kept s x _ _).trans (fireMarks_kept _ x _ _)).trans (afterPulse_kept _ x _)

@[simp] theorem emitPulse_axis_other (s : State) (x : Axis) : (s.emitPulse x).axis x.other = s.axis x.other := by
  simp only [State.emitPulse]
  repeat' split
  all_goals simp [State.fireMarks, State.stepOut]

theorem dwellEnds_kept (s : State) (x : Axis) : s.Kept (s.dwellEnds x) := by
  simp only [State.dwellEnds]
  repeat' split
  all_goals first
    | exact .refl s
    | exact endMove_kept s x _ _ _

@[simp] theorem dwellEnds_axis_other (s : State) (x : Axis) : (s.dwellEnds x).axis x.other = s.axis x.other := by
  simp only [State.dwellEnds]
  repeat' split
  all_goals simp

theorem armEnds_kept (s : State) (x : Axis) : s.Kept (s.armEnds x) := by
  simp only [State.armEnds]
  repeat' split
  all_goals first
    | exact .refl s
    | exact endMove_kept s x _ _ _

@[simp] theorem armEnds_axis_other (s : State) (x : Axis) : (s.armEnds x).axis x.other = s.axis x.other := by
  simp only [State.armEnds]
  repeat' split
  all_goals simp

/-! ### Reports -/

theorem syncEdge_kept (s : State) (x : Axis) : s.Kept (s.syncEdge x) := by
  simp only [State.syncEdge]
  repeat' split
  all_goals first
    | exact .refl s
    | exact startMove_kept s x

@[simp] theorem syncEdge_axis_other (s : State) (x : Axis) : (s.syncEdge x).axis x.other = s.axis x.other := by
  simp only [State.syncEdge]
  repeat' split
  all_goals simp

theorem takeEmergency_kept (s : State) (x : Axis) (v : Bool) : s.Kept (s.takeEmergency x v) := by
  simp only [State.takeEmergency]; split
  · exact (setLines_kept s x _).trans (emergencyStop_kept _ x)
  · exact setLines_kept s x _

@[simp] theorem takeEmergency_axis_other (s : State) (x : Axis) (v : Bool) :
    (s.takeEmergency x v).axis x.other = s.axis x.other := by
  simp only [State.takeEmergency]; split <;> simp

theorem takeSync_kept (s : State) (x : Axis) (v : Bool) : s.Kept (s.takeSync x v) := by
  simp only [State.takeSync]; split
  · exact (setLines_kept s x _).trans (syncEdge_kept _ x)
  · exact setLines_kept s x _

@[simp] theorem takeSync_axis_other (s : State) (x : Axis) (v : Bool) : (s.takeSync x v).axis x.other = s.axis x.other := by
  simp only [State.takeSync]; split <;> simp

theorem takeReport_kept (s : State) (x : Axis) (r : Report) : s.Kept (s.takeReport x r) := by
  cases r
  · exact takeEmergency_kept s x _
  · exact takeSync_kept s x _

@[simp] theorem takeReport_axis_other (s : State) (x : Axis) (r : Report) : (s.takeReport x r).axis x.other = s.axis x.other := by
  cases r
  · exact takeEmergency_axis_other s x _
  · exact takeSync_axis_other s x _

@[simp] theorem takeReport_reports (s : State) (x y : Axis) (r : Report) : ((s.takeReport x r).axis y).reports = (s.axis y).reports :=
  (takeReport_kept s x r).reports y

/-- An engine that takes its oldest report leaves the others outstanding. -/
theorem takeFront_reports (s : State) (x : Axis) : ((s.takeFront x).axis x).reports = (s.axis x).reports.tail := by
  simp only [State.takeFront]
  split
  · rename_i h; simp [h]
  · rename_i h; simp [h]

@[simp] theorem takeFront_axis_other (s : State) (x : Axis) : (s.takeFront x).axis x.other = s.axis x.other := by
  simp only [State.takeFront]; split <;> simp

@[simp] theorem takeFronts_axis_other (s : State) (x : Axis) (n : Nat) : (s.takeFronts x n).axis x.other = s.axis x.other := by
  induction n generalizing s with
  | zero => rfl
  | succ n ih => simp [State.takeFronts, ih]

/-- An engine that takes as many reports as are outstanding to it leaves none. -/
theorem takeFronts_reports (x : Axis) (n : Nat) (s : State) :
    ((s.takeFronts x n).axis x).reports = (s.axis x).reports.drop n := by
  induction n generalizing s with
  | zero => rfl
  | succ n ih => rw [State.takeFronts, ih, takeFront_reports, List.drop_tail]

@[simp] theorem takeOutstanding_reports (s : State) (x : Axis) : ((s.takeOutstanding x).axis x).reports = [] := by
  rw [State.takeOutstanding, takeFronts_reports, List.drop_length]

@[simp] theorem takeOutstanding_axis_other (s : State) (x : Axis) : (s.takeOutstanding x).axis x.other = s.axis x.other :=
  takeFronts_axis_other s x _

/-- After each engine has taken what was outstanding, nothing is. -/
theorem takeReports_reportsTaken (s : State) : s.takeReports.reportsTaken = true := by
  have ha := takeOutstanding_axis_other (s.takeOutstanding .A) .B
  have ha' := takeOutstanding_reports s .A
  have hb := takeOutstanding_reports (s.takeOutstanding .A) .B
  simp only [other_B, axis_A, axis_B] at ha ha' hb
  simp [State.reportsTaken, State.takeReports, ha, ha', hb]

@[simp] theorem takeLine_axis_other (s : State) (x : Axis) (r : Report) : (s.takeLine x r).axis x.other = s.axis x.other := by
  simp only [State.takeLine]; split <;> simp

/-- Where reports of the other line alone stand before a report, it is the oldest of its line. -/
theorem oldest_append (r : Report) (pre post : List Report) (h : ∀ q ∈ pre, q.sameLine r = false) (hr : r.sameLine r = true) :
    r.oldest (pre ++ r :: post) = some (r, pre ++ post) := by
  induction pre with
  | nil => simp [Report.oldest, hr]
  | cons q rest ih =>
    have hq := h q (List.mem_cons_self ..)
    have := ih (fun k hk => h k (List.mem_cons_of_mem _ hk))
    simp [Report.oldest, hq, this]

theorem sameLine_refl (r : Report) : r.sameLine r = true := by cases r <;> rfl

/-- Taking the oldest report of a line leaves the others outstanding. -/
theorem takeLine_reports (s : State) (x : Axis) (r q : Report) (rest : List Report)
    (h : r.oldest (s.axis x).reports = some (q, rest)) : ((s.takeLine x r).axis x).reports = rest := by
  simp [State.takeLine, h]

@[simp] theorem takeLines_axis_other (s : State) (x : Axis) (r : Report) (n : Nat) :
    (s.takeLines x r n).axis x.other = s.axis x.other := by
  induction n generalizing s with
  | zero => rfl
  | succ n ih => simp [State.takeLines, ih]

@[simp] theorem takeThrough_axis_other (s : State) (x : Axis) (r : Report) : (s.takeThrough x r).axis x.other = s.axis x.other :=
  takeLines_axis_other s x r _

/-- A report's command leaves the other engine as it was, but for the report that a change of the line makes to it. -/
theorem report_axis_other (s : State) (x : Axis) (r : Report) :
    (s.report x r).axis x.other = s.axis x.other ∨
      (s.report x r).axis x.other = { s.axis x.other with reports := (s.axis x.other).reports ++ [r] } := by
  simp only [State.report]
  repeat' split
  all_goals simp

/-- A report with none of its line before it in the list has place 1. -/
theorem place_append (r : Report) (pre post : List Report) (h : ∀ q ∈ pre, q.sameLine r = false) : r.place (pre ++ r :: post) = 1 := by
  induction pre with
  | nil => simp [Report.place]
  | cons q rest ih =>
    have hq := h q (List.mem_cons_self ..)
    have hne : q ≠ r := fun e => by subst e; rw [sameLine_refl] at hq; cases hq
    simp [Report.place, hne, hq, ih (fun k hk => h k (List.mem_cons_of_mem _ hk))]

/-- Where a report is the oldest of its line outstanding to an engine, its command takes it alone. -/
theorem takeThrough_first (s : State) (x : Axis) (r : Report) (pre post : List Report) (hs : (s.axis x).reports = pre ++ r :: post)
    (h : ∀ q ∈ pre, q.sameLine r = false) : s.takeThrough x r = (s.setReports x (pre ++ post)).takeReport x r := by
  simp [State.takeThrough, hs, place_append r pre post h, State.takeLines, State.takeLine, oldest_append r pre post h (sameLine_refl r)]

end Sys2Proof.Machine
end

