-- ==== Sys2Proof/Laws/Link.lean ====
section
/-! SUPPORT. What the link's shared operations do: outstanding reports, the taking of a request, and the reply. -/

namespace Sys2Proof.Machine

/-- A part with the lines of an axis put back is the same. -/
theorem setLines_self (s : State) (x : Axis) : s.setLines x (s.axis x).lines = s := by cases x <;> rfl

/-- A report of the level an engine already has changes nothing. -/
theorem takeEmergency_same (s : State) (x : Axis) : s.takeEmergency x (s.axis x).lines.emergency = s := by
  cases x <;> simp only [State.takeEmergency, Bool.and_not_self] <;> rfl

/-- A report of the sync level an engine already has changes nothing. -/
theorem takeSync_same (s : State) (x : Axis) : s.takeSync x (s.axis x).lines.syncHigh = s := by
  cases x <;> simp only [State.takeSync, Bool.not_and_self] <;> rfl

/-- Nothing is outstanding exactly where both engines' lists are empty. -/
theorem reportsTaken_iff (s : State) : s.reportsTaken = true ↔ s.a.reports = [] ∧ s.b.reports = [] := by
  simp [State.reportsTaken]

/-- An engine with no report outstanding takes none. -/
theorem takeOutstanding_of_nil (s : State) (x : Axis) (h : (s.axis x).reports = []) : s.takeOutstanding x = s := by
  simp [State.takeOutstanding, h, State.takeFronts]

/-- With every report taken, none is outstanding before a request (R205). -/
theorem takeReports_of_taken (s : State) (h : s.reportsTaken = true) : s.takeReports = s := by
  obtain ⟨ha, hb⟩ := (reportsTaken_iff s).1 h
  rw [State.takeReports, takeOutstanding_of_nil s .A ha, takeOutstanding_of_nil s .B hb]

/-- Where the link takes requests, it takes transactions and every report has been taken. -/
theorem linkReady_iff (s : State) : s.linkReady = true ↔ s.linkTakes = true ∧ s.reportsTaken = true := by
  simp [State.linkReady]

/-- The link takes a transaction when the part runs and the transaction is not one it ignores (R163, R184). -/
theorem linkTakes_iff (s : State) : s.linkTakes = true ↔ s.power = .running ∧ s.link.chipSelect ≠ .ignored := by
  simp [State.linkTakes, State.live]

/-- A request that the link takes with no report outstanding: its owner's state, and its owner's answer in the reply slot (R181). -/
theorem takeRequest_ready (s : State) (kind : RequestKind) (payload filler : List Byte) (owner : State → Answer) (h : s.linkReady = true) :
    s.takeRequest kind payload filler owner =
      (owner s).state.withLink
        (s.link.replied (requestFrame kind.code payload ++ filler) ⟨(owner s).status, kind.code, (owner s).payload⟩) := by
  have ⟨h1, h2⟩ := (linkReady_iff s).1 h
  simp [State.takeRequest, h1, takeReports_of_taken s h2]

/-- A request outside a live link changes chip-select alone (R163, R184). -/
theorem takeRequest_ignored (s : State) (kind : RequestKind) (payload filler : List Byte) (owner : State → Answer)
    (h : s.linkTakes = false) : s.takeRequest kind payload filler owner = s.chipSelectHigh := by
  simp [State.takeRequest, h]

/-- An answered request is the part with the owner's answer in the reply slot. -/
theorem answered_of_payload (s : State) (i : Instr) (k : RequestKind) (payload : List Byte) (status : Status) (reply : List Byte)
    (h : payloadOfRequest i = some (k, payload)) :
    s.answered i status reply = s.withLink (s.link.replied (requestFrame k.code payload ++ fillerOfRequest i) ⟨status, k.code, reply⟩) := by
  simp [State.answered, h]

@[simp] theorem replied_chipSelect (l : Link) (bytes : List Byte) (r : Reply) : (l.replied bytes r).chipSelect = .high := rfl
@[simp] theorem replied_slot (l : Link) (bytes : List Byte) (r : Reply) : (l.replied bytes r).slot = r := rfl
@[simp] theorem replied_receiver (l : Link) (bytes : List Byte) (r : Reply) : (l.replied bytes r).receiver = Receiver.take bytes := rfl
@[simp] theorem replied_shifted (l : Link) (bytes : List Byte) (r : Reply) : (l.replied bytes r).shifted = l.fixedReply := rfl

end Sys2Proof.Machine
end

