-- ==== Sys2Proof/Laws/PerInstr.lean ====
section
/-! SUPPORT. FrameShape: a well-formed request carries a payload of a length that its kind's row of R192 admits, one lemma a command. -/

namespace Sys2Proof.Laws.FrameShape

/-- A request's payload has a length of its kind's row of 12.2; a command that no frame carries has none. -/
def Statement (i : Instr) : Prop :=
  ∀ k p, i.wellFormed = true → payloadOfRequest i = some (k, p) → p.length ∈ k.lengths

theorem of_none {i : Instr} (h : payloadOfRequest i = none) : Statement i := by
  intro k p _ hp
  rw [h] at hp
  cases hp

theorem of_some {i : Instr} {k : RequestKind} {p : List Byte} (h : payloadOfRequest i = some (k, p)) (hl : p.length ∈ k.lengths) :
    Statement i := by
  intro k' p' _ hp
  rw [h] at hp
  cases hp
  exact hl

theorem moveBytes_length (m : RawMove) : (moveBytes m).length = 13 := rfl

theorem movesBytes_length (moves : List RawMove) : (moves.flatMap moveBytes).length = 13 * moves.length := by
  induction moves with
  | nil => rfl
  | cons m rest ih => rw [List.flatMap_cons, List.length_append, ih, moveBytes_length, List.length_cons]; omega

theorem movesPayload_length (n : Nat) (h : 1 ≤ n ∧ n ≤ 4) : 13 * n + 1 ∈ RequestKind.queueMoves.lengths := by
  obtain ⟨h1, h4⟩ := h
  interval_cases n <;> decide

theorem nop (filler : List Byte) : Statement (.nop filler) :=
  of_some rfl (List.mem_singleton.mpr rfl)
theorem getStatus (filler : List Byte) : Statement (.getStatus filler) :=
  of_some rfl (List.mem_singleton.mpr rfl)
theorem getSettings (filler : List Byte) : Statement (.getSettings filler) :=
  of_some rfl (List.mem_singleton.mpr rfl)
theorem setSettings (settings : RawSettings) (filler : List Byte) : Statement (.setSettings settings filler) :=
  of_some rfl (List.mem_singleton.mpr rfl)
theorem queueMoves (selector : Byte) (moves : List RawMove) (filler : List Byte) : Statement (.queueMoves selector moves filler) := by
  intro k p hw hp
  cases hp
  rw [List.length_cons, movesBytes_length]
  exact movesPayload_length _ (of_decide_eq_true hw)
theorem flushQueue (selector : Byte) (filler : List Byte) : Statement (.flushQueue selector filler) :=
  of_some rfl (List.mem_singleton.mpr rfl)
theorem stopAxis (selector style after : Byte) (filler : List Byte) : Statement (.stopAxis selector style after filler) :=
  of_some rfl (List.mem_singleton.mpr rfl)
theorem resumeAxis (selector : Byte) (filler : List Byte) : Statement (.resumeAxis selector filler) :=
  of_some rfl (List.mem_singleton.mpr rfl)
theorem retune (selector : Byte) (rate : Word) (filler : List Byte) : Statement (.retune selector rate filler) :=
  of_some rfl (List.mem_singleton.mpr rfl)
theorem setPosition (selector : Byte) (value : Word) (filler : List Byte) : Statement (.setPosition selector value filler) :=
  of_some rfl (List.mem_singleton.mpr rfl)
theorem writeProfile (index : Byte) (profile : RawProfile) (filler : List Byte) : Statement (.writeProfile index profile filler) :=
  of_some rfl (List.mem_singleton.mpr rfl)
theorem readProfile (index : Byte) (filler : List Byte) : Statement (.readProfile index filler) :=
  of_some rfl (List.mem_singleton.mpr rfl)
theorem stationStore (station presenceA : Byte) (valueA : Word) (presenceB : Byte) (valueB : Word) (filler : List Byte) : Statement (.stationStore station presenceA valueA presenceB valueB filler) :=
  of_some rfl (List.mem_singleton.mpr rfl)
theorem stationTeach (station axisSet : Byte) (filler : List Byte) : Statement (.stationTeach station axisSet filler) :=
  of_some rfl (List.mem_singleton.mpr rfl)
theorem stationRead (station : Byte) (filler : List Byte) : Statement (.stationRead station filler) :=
  of_some rfl (List.mem_singleton.mpr rfl)
theorem stationClear (station axisSet : Byte) (filler : List Byte) : Statement (.stationClear station axisSet filler) :=
  of_some rfl (List.mem_singleton.mpr rfl)
theorem markAdd (selector id : Byte) (position : Word) (sense : Byte) (filler : List Byte) : Statement (.markAdd selector id position sense filler) :=
  of_some rfl (List.mem_singleton.mpr rfl)
theorem markRemove (selector id : Byte) (filler : List Byte) : Statement (.markRemove selector id filler) :=
  of_some rfl (List.mem_singleton.mpr rfl)
theorem markList (selector : Byte) (filler : List Byte) : Statement (.markList selector filler) :=
  of_some rfl (List.mem_singleton.mpr rfl)
theorem readJournal (start : Half) (count : Byte) (filler : List Byte) : Statement (.readJournal start count filler) :=
  of_some rfl (List.mem_singleton.mpr rfl)
theorem ackJournal (number : Half) (filler : List Byte) : Statement (.ackJournal number filler) :=
  of_some rfl (List.mem_singleton.mpr rfl)
theorem readEvents (filler : List Byte) : Statement (.readEvents filler) :=
  of_some rfl (List.mem_singleton.mpr rfl)
theorem clearEvents (flags : Byte) (filler : List Byte) : Statement (.clearEvents flags filler) :=
  of_some rfl (List.mem_singleton.mpr rfl)
theorem clearColdFlag (filler : List Byte) : Statement (.clearColdFlag filler) :=
  of_some rfl (List.mem_singleton.mpr rfl)
theorem softReset (filler : List Byte) : Statement (.softReset filler) :=
  of_some rfl (List.mem_singleton.mpr rfl)
theorem frameRejected (bytes : List Byte) : Statement (.frameRejected bytes) :=
  of_none rfl
theorem syncFallingEdge (engine : Axis) : Statement (.syncFallingEdge engine) :=
  of_none rfl
theorem syncHigh (engine : Axis) : Statement (.syncHigh engine) :=
  of_none rfl
theorem limitAssert (axis : Axis) (side : Direction) : Statement (.limitAssert axis side) :=
  of_none rfl
theorem limitRelease (axis : Axis) (side : Direction) : Statement (.limitRelease axis side) :=
  of_none rfl
theorem homeAssert (axis : Axis) : Statement (.homeAssert axis) :=
  of_none rfl
theorem homeRelease (axis : Axis) : Statement (.homeRelease axis) :=
  of_none rfl
theorem emergencyAssert (engine : Axis) : Statement (.emergencyAssert engine) :=
  of_none rfl
theorem emergencyRelease (engine : Axis) : Statement (.emergencyRelease engine) :=
  of_none rfl
theorem pinReset : Statement .pinReset :=
  of_none rfl
theorem pinResetRelease (disturbed : Bool) : Statement (.pinResetRelease disturbed) :=
  of_none rfl
theorem powerOn : Statement .powerOn :=
  of_none rfl
theorem pulse (axis : Axis) : Statement (.pulse axis) :=
  of_none rfl
theorem dwellTimeout (axis : Axis) : Statement (.dwellTimeout axis) :=
  of_none rfl
theorem armTimeout (axis : Axis) : Statement (.armTimeout axis) :=
  of_none rfl
theorem admissionAttempt (axis : Axis) : Statement (.admissionAttempt axis) :=
  of_none rfl
theorem supplyOutOfRange : Statement .supplyOutOfRange :=
  of_none rfl
theorem chipSelectFall : Statement .chipSelectFall :=
  of_none rfl

end Sys2Proof.Laws.FrameShape
end

