-- ==== Sys2Proof/Tests/Slice0.lean ====
section
/-! SUPPORT. Tests against the spec's worked examples and tables, and the witnesses of the obligations' hypotheses. -/

open Sys2Proof Sys2Proof.Machine

namespace Sys2Proof.Tests

set_option Elab.async false

/-! ### Helpers -/

/-- The state a command leaves; the state before it where it leaves none. -/
def after (c : Instr) (s : State) : State :=
  match exec c s with
  | .next t => t
  | .fault _ | .refused _ => s

/-- The payload and status a command leaves in the reply slot. -/
def replyTo (c : Instr) (s : State) : Status × List Byte :=
  ((after c s).link.slot.status, (after c s).link.slot.payload)

/-- A move of a kind with a start and a value, in + and with tag 77; a PAIR move has pair 5. -/
def mv (kind : MoveKind) (start : Start) (value : Word) : Move :=
  ⟨kind, 0, start, .plus, false, if start = .pair then 5#8 else 0#8, 77#16, value, 0#32⟩

/-- The record that spells mv. -/
def rawMv (kind : BitVec 4) (start : BitVec 4) (value : Word) : RawMove :=
  ⟨kind, 0#4, start, 0#2, 0#2, 0#8, 77#16, value, 0#32⟩

/-- The profile of the spec's examples: base 1,000, cruise 5,000, ramp step 1,000. -/
def exampleProfile : Profile := ⟨1000, 5000, 1000, 0, .ramped, .ramped⟩

/-- A slot of a move in + with a distance, in a phase at a level, on the example profile. -/
def slot (m : Move) (distance : Option Nat) (phase : Phase) (level : Nat) : Slot :=
  ⟨m, exampleProfile.snapshot, some .plus, distance, phase, level, 0#32, none, none, none, none, none⟩

/-- The part with axis A in a state with a slot and a queue. -/
def withA (st : AxisState) (sl : Option Slot) (queue : List Move) : State :=
  { State.reset with
    a := { AxisUnit.cold with state := st, slot := sl, queue := queue }
    journal := { State.reset.journal with reserved := sl.toList.length, waitList := if st = .blocked then [.A] else [] } }

/-- The part with a number of held records from a sequence number on. -/
def holding (s : State) (n : Nat) (first : Half) : State :=
  State.seal { s with journal := { s.journal with
    records := (List.range n).map (fun k => ⟨first + BitVec.ofNat 16 k, Entry.halt .A .hostStop 0#32⟩)
    seq := first + BitVec.ofNat 16 n } }

/-- A stop pending on a move. -/
def hostPending : PendingStop := ⟨.ramped, .hostStop, .proceed⟩

/-- A STOPPING slot at a level. -/
def stoppingSlot (level : Nat) : Slot := { slot (mv .run .now 0#32) none .stopping level with stop := some hostPending }

/-! ### WellFormed -/

theorem test_wellFormed_queueMoves_none : (Instr.queueMoves 1#8 [] []).wellFormed = false := by decide +kernel
theorem test_wellFormed_queueMoves_five :
    (Instr.queueMoves 1#8 (List.replicate 5 (rawMv 1 0 1)) []).wellFormed = false := by decide +kernel
theorem test_wellFormed_frameRejected_empty : (Instr.frameRejected []).wellFormed = false := by decide +kernel
theorem test_wellFormed_frameRejected_valid : (Instr.frameRejected [0x01#8, 0x00#8, 0x15#8]).wellFormed = false := by decide +kernel
theorem test_wellFormed_frameRejected_damaged : (Instr.frameRejected [0x01#8, 0x00#8, 0x14#8]).wellFormed = true := by decide +kernel

/-! ### Frames, written out from 12.2, 12.3, 12.5, 12.6 and R177 -/

theorem test_crc_example : crc8 [1#8, 0#8] = 21#8 := by decide +kernel
theorem test_frame_nop : commandOfTransaction [0x01#8, 0x00#8, 0x15#8] = some (.nop []) := by decide +kernel
theorem test_reply_restarted : Reply.restarted.bytes = [0x20#8, 0x00#8, 0x00#8, 0x43#8] := by decide +kernel
theorem test_frame_setSettings :
    commandOfTransaction [0x04#8, 9#8, 0x01#8, 0x01#8, 0xF4#8, 0#8, 1#8, 64#8, 0x0F#8, 3#8, 1#8, 0x79#8] =
      some (.setSettings ⟨1#8, 500#16, 0#8, 1#8, 64#8, 0x0F#8, 3#8, 1#8⟩ []) := by decide +kernel
theorem test_frame_queueMoves :
    commandOfTransaction [0x10#8, 14#8, 0x02#8, 0x52#8, 0x25#8, 0x00#8, 0xAB#8, 0xCD#8, 0x00#8, 0x00#8, 0x07#8, 0xD0#8, 0xFF#8,
        0xFF#8, 0xFF#8, 0xCE#8, 0x2D#8] =
      some (.queueMoves 2#8 [⟨5#4, 2#4, 2#4, 1#2, 1#2, 0#8, 0xABCD#16, 2000#32, (-50 : Word)⟩] []) := by decide +kernel
theorem test_frame_stopAxis : commandOfTransaction [0x12#8, 3#8, 3#8, 1#8, 2#8, 0x6A#8] = some (.stopAxis 3#8 1#8 2#8 []) := by decide +kernel
theorem test_frame_retune :
    commandOfTransaction [0x14#8, 5#8, 1#8, 0x00#8, 0x00#8, 0x0B#8, 0xB8#8, 0xFF#8] = some (.retune 1#8 3000#32 []) := by decide +kernel
theorem test_frame_writeProfile :
    commandOfTransaction [0x20#8, 15#8, 6#8, 0#8, 0#8, 1#8, 0xF4#8, 0#8, 0#8, 0x0F#8, 0xA0#8, 1#8, 0xF4#8, 0#8, 10#8, 0#8, 1#8,
        0xCC#8] = some (.writeProfile 6#8 ⟨500#32, 4000#32, 500#16, 10#16, 0#8, 1#8⟩ []) := by decide +kernel
theorem test_frame_stationStore :
    commandOfTransaction [0x28#8, 11#8, 5#8, 1#8, 0xFF#8, 0xFF#8, 0xFF#8, 0xFE#8, 2#8, 0#8, 0#8, 0#8, 0#8, 0x9A#8] =
      some (.stationStore 5#8 1#8 (-2 : Word) 2#8 0#32 []) := by decide +kernel
theorem test_frame_markAdd :
    commandOfTransaction [0x30#8, 7#8, 2#8, 9#8, 0#8, 0#8, 0x2E#8, 0xE0#8, 3#8, 0x0B#8] = some (.markAdd 2#8 9#8 12000#32 3#8 []) := by
  decide +kernel
theorem test_frame_readJournal :
    commandOfTransaction [0x38#8, 3#8, 0x04#8, 0x01#8, 2#8, 0xC5#8] = some (.readJournal 1025#16 2#8 []) := by decide +kernel
theorem test_frame_clearEvents : commandOfTransaction [0x41#8, 1#8, 0x0C#8, 0xDC#8] = some (.clearEvents 12#8 []) := by decide +kernel
theorem test_frame_softReset : commandOfTransaction [0x5A#8, 0#8, 0x8E#8] = some (.softReset []) := by decide +kernel
/-- R180: a QUEUE MOVES of 20 bytes. -/
theorem test_check_order :
    linkCheck (requestFrame 0x10#8 (List.replicate 20 0#8)) = some .lengthError ∧
      linkCheck (requestFrame 0x77#8 []) = some .unknownKind ∧ linkCheck [0x77#8, 0#8, 0#8] = some .crcError := by decide +kernel

/-! ### One step of a command -/

/-- R174: the first reply after power-on is RESTARTED; R191: the NOP then gets OK. -/
theorem test_nop : State.reset.link.slot.bytes = [0x20#8, 0x00#8, 0x00#8, 0x43#8] ∧ replyTo (.nop []) State.reset = (.ok, []) := by
  decide +kernel
/-- R189 at reset: both axes IDLE without a tag, one record held, numbered 1, the cold flag set, SYNC high. -/
theorem test_getStatus :
    replyTo (.getStatus []) State.reset = (.ok, List.replicate 14 0#8 ++ [0x80#8, 0#8] ++ List.replicate 14 0#8 ++ [0x80#8, 0#8] ++
      [1#8, 0#8, 0#8, 1#8, 0#8, 1#8, 0#8, 0#8, 1#8, 1#8]) := by decide +kernel
/-- The defaults of 12.6. -/
theorem test_getSettings :
    replyTo (.getSettings []) State.reset = (.ok, [0#8, 0#8, 0#8, 0#8, 0#8, 1#8, 0xFF#8, 0#8, 0#8]) := by decide +kernel
/-- R56 and R57: with the polarity inverted the direction output of an axis that last ran in + goes low. -/
theorem test_setSettings_polarity :
    State.reset.directionHigh .A = true ∧
      (after (.setSettings ⟨0#8, 0#16, 1#8, 0#8, 1#8, 0xFF#8, 0#8, 0#8⟩ []) State.reset).directionHigh .A = false := by decide +kernel
theorem test_frameRejected :
    (after (.frameRejected [0x01#8, 0x00#8, 0x14#8]) State.reset).link.slot = ⟨.crcError, 1#8, []⟩ ∧
      (after (.frameRejected [0x01#8, 0x00#8, 0x14#8]) State.reset).events = 3#8 := by decide +kernel
/-- R175: a transaction of no byte sets no event and leaves a report outstanding. -/
theorem test_frameRejected_none :
    (let s := after (.frameRejected []) (after (.emergencyAssert .A) State.reset);
      (s.events, s.b.reports, s.b.state, s.link.slot)) = (0x19#8, [.emergency true], .idle, Reply.restarted) := by decide +kernel
/-- R176: a NOP clocked as 68 bytes leaves the first 67 and the count; R178 and R183: the host has read RESTARTED and then zeros. -/
theorem test_nop_filler :
    (let s := after (.nop (List.replicate 65 0xA5#8)) (after .chipSelectFall State.reset);
      (s.link.receiver.bytes = [1#8, 0#8, 0x15#8] ++ List.replicate 64 0xA5#8 ∧ s.link.receiver.count = 68 ∧
        s.link.bytesOut = [0x20#8, 0#8, 0#8, 0x43#8] ++ List.replicate 64 0#8 ∧ s.link.slot.status = .ok)) := by decide +kernel
theorem test_frame_filler :
    commandOfTransaction [0x41#8, 1#8, 0x0C#8, 0xDC#8, 0xFF#8, 0#8] = some (.clearEvents 12#8 [0xFF#8, 0#8]) := by decide +kernel
/-- 12.4: the record of a power-on. -/
theorem test_record_bytes : (State.reset.journal.records.flatMap Record.bytes) =
    [0#8, 1#8, 9#8, 0x40#8, 0#8, 0#8, 0#8, 1#8, 0#8, 0#8, 0#8, 1#8, 0#8, 0#8, 0#8, 0#8, 0#8, 0#8, 0#8, 0#8] := by decide +kernel
/-- The filling of a queue from 30 records (chapter 1): two more fit, and then none. -/
theorem test_queueMoves_full :
    replyTo (.queueMoves 1#8 (List.replicate 2 (rawMv 1 0 5)) []) (withA .idle none (List.replicate 30 (mv .relative .now 5#32))) =
        (.ok, [0#8, 0#8, 32#8]) ∧
      replyTo (.queueMoves 1#8 [rawMv 1 0 5] []) (withA .idle none (List.replicate 32 (mv .relative .now 5#32))) =
        (.full, [0#8, 0#8, 32#8]) := by decide +kernel
/-- R203: a start nibble of 7h is refused with field code START. -/
theorem test_queueMoves_start : replyTo (.queueMoves 1#8 [rawMv 1 7 5] []) State.reset = (.invalid, [1#8, 4#8, 0#8]) := by
  decide +kernel
theorem test_flushQueue_blocked :
    (after (.flushQueue 1#8 []) (withA .blocked none [mv .run .now 0#32])).a.state = .idle ∧
      replyTo (.flushQueue 1#8 []) (withA .blocked none [mv .run .now 0#32]) = (.ok, [0#8, 1#8, 0#8]) := by decide +kernel
/-- Chapter 5, a host stop at level 4: STOPPING at level 3. -/
theorem test_stopAxis_ramped :
    ((after (.stopAxis 1#8 1#8 0#8 []) (withA .running (some (slot (mv .run .now 0#32) none .cruise 4)) [])).a.slot.map
      (fun sl => (sl.phase, sl.level, sl.stop))) = some (.stopping, 3, some hostPending) := by decide +kernel
theorem test_resumeAxis_emergency :
    replyTo (.resumeAxis 1#8 []) (after (.emergencyAssert .A) (withA .halted none [])) =
      (.emergency, [0#8, 5#8, 5#8]) := by decide +kernel
/-- R37: a cruise rate of 2,000 under level 4 gives top level 1 and SLOWING, the ceiling kept. -/
theorem test_retune_down :
    replyTo (.retune 1#8 2000#32 []) (withA .running (some (slot (mv .run .now 0#32) none .cruise 4)) []) =
      (.ok, [0#8, 3#8, 3#8, 0#8, 0#8, 4#8, 0#8, 0#8, 1#8, 0#8, 0x13#8, 0x88#8]) := by decide +kernel
theorem test_setPosition : replyTo (.setPosition 2#8 (-50) []) State.reset = (.ok, [0#8, 0#8, 0xFF#8, 0xFF#8, 0xFF#8, 0xCE#8]) := by
  decide +kernel
/-- Chapter 3: profile 3 of the home seek has top level 7. -/
theorem test_writeProfile :
    replyTo (.writeProfile 3#8 ⟨500#32, 4000#32, 500#16, 0#16, 0#8, 1#8⟩ []) State.reset = (.ok, [0#8, 3#8, 0#8, 0#8, 7#8]) := by
  decide +kernel
theorem test_readProfile_bad : replyTo (.readProfile 8#8 []) State.reset = (.invalid, 0x10#8 :: 8#8 :: List.replicate 17 0#8) := by
  decide +kernel
theorem test_stationStore :
    replyTo (.stationStore 5#8 1#8 2000#32 2#8 0#32 []) State.reset =
      (.ok, [0#8, 5#8, 1#8, 0#8, 0#8, 0x07#8, 0xD0#8, 0#8, 0#8, 0#8, 0#8, 0#8]) := by decide +kernel
theorem test_stationTeach :
    (after (.stationTeach 31#8 1#8 []) { State.reset with a := { AxisUnit.cold with position := 7#32 } }).stations[31] = ⟨some 7#32, none⟩ :=
  by decide +kernel
theorem test_stationRead_bad : replyTo (.stationRead 32#8 []) State.reset = (.invalid, 0x28#8 :: 32#8 :: List.replicate 10 0#8) := by
  decide +kernel
theorem test_stationClear : (replyTo (.stationClear 0#8 0#8 []) State.reset).1 = .invalid := by decide +kernel
/-- Chapter 6: the table is listed in ascending id. -/
theorem test_markAdd_order :
    replyTo (.markList 1#8 []) (after (.markAdd 1#8 2#8 3#32 2#8 []) (after (.markAdd 1#8 9#8 1#32 3#8 []) State.reset)) =
      (.ok, [0#8, 2#8, 2#8, 0#8, 0#8, 0#8, 3#8, 2#8, 9#8, 0#8, 0#8, 0#8, 1#8, 3#8]) := by decide +kernel
theorem test_markRemove_absent : replyTo (.markRemove 1#8 7#8 []) State.reset = (.notFound, List.replicate 7 0#8) := by decide +kernel
/-- Chapter 8, a window across the wrap: numbers 65,534 to 1 are held. -/
theorem test_journal_wrap :
    (replyTo (.readJournal 1#16 3#8 []) (holding State.reset 4 65534#16)).2.take 3 = [1#8, 0#8, 1#8] ∧
      replyTo (.readJournal 2#16 1#8 []) (holding State.reset 4 65534#16) = (.ok, [0#8]) ∧
      replyTo (.readJournal 65533#16 1#8 []) (holding State.reset 4 65534#16) =
        (.notFound, [0#8, 0#8, 4#8, 0xFF#8, 0xFE#8, 0#8, 1#8]) := by decide +kernel
theorem test_ackJournal_wrap :
    replyTo (.ackJournal 0#16 []) (holding State.reset 4 65534#16) = (.ok, [1#8, 0#8, 0#8, 0#8, 0#8, 1#8, 0#8, 1#8]) := by decide +kernel
theorem test_readEvents : replyTo (.readEvents []) State.reset = (.ok, [1#8, 0xFF#8, 1#8]) := by decide +kernel
theorem test_clearEvents :
    replyTo (.clearEvents 1#8 []) State.reset = (.ok, [0#8, 0xFF#8, 0#8]) ∧ (after (.clearEvents 1#8 []) State.reset).irqLow = false := by
  decide +kernel
theorem test_clearColdFlag : (after (.clearColdFlag []) State.reset).coldFlag = false := by decide +kernel
/-- Chapter 8: a move interrupted by a SOFT RESET leaves INTERRUPTED, and then the RESTART record with its queue's discards. -/
theorem test_softReset :
    ((after (.softReset []) (State.seal (withA .running (some (slot (mv .run .now 0#32) none .cruise 4)) [mv .run .now 0#32,
        mv .run .now 0#32]))).journal.records.map (fun r => (r.seq, r.entry.kind, r.entry.small, r.entry.extra))) =
      [(1#16, .restart, 1#8, some (0#16, 0#16)), (2#16, .interrupted, 0#8, none), (3#16, .restart, 4#8, some (2#16, 0#16))] := by
  decide +kernel
theorem test_pinReset_retainFault :
    (after (.pinResetRelease true) (after .pinReset State.reset)).journal.records.map (fun r => r.entry.small) = [2#8] ∧
      (after .pinReset State.reset).irqLow = false := by decide +kernel
theorem test_powerOn : after .powerOn (after .supplyOutOfRange State.reset) = State.reset := by decide +kernel
/-- Chapter 5: the limit of a STOPPING move raises the cause to LIMIT and the after-action to HALT. -/
theorem test_limitAssert :
    ((after (.limitAssert .A .plus) (withA .stopping (some (stoppingSlot 1)) [])).a.slot.map (fun sl => (sl.level, sl.stop))) =
      some (1, some ⟨.ramped, .limit, .halt⟩) := by decide +kernel
theorem test_limitRelease : (after (.limitRelease .B .minus) State.reset).b.lines = Lines.rest := by decide +kernel
/-- Chapter 3, the home seek: the counter takes aux, and the stop lowers the level from 4 to 3. -/
theorem test_homeAssert :
    (let s := after (.homeAssert .A) (withA .running (some { slot ⟨.home, 0, .now, .plus, true, 0#8, 100#16, 50#32, 9#32⟩ (some 50)
      .cruise 4 with delivered := 30#32 }) []);
      (s.a.position, s.a.slot.map (fun sl => (sl.level, sl.afterCapture, sl.stop.map (·.cause))))) =
      (9#32, some (3, some 0#32, some .homeFound)) := by decide +kernel
theorem test_homeRelease : (after (.homeRelease .A) (after (.homeAssert .A) State.reset)).a.lines.home = false := by decide +kernel
/-- Chapter 5: the emergency line halts an IDLE axis with a HALT record. -/
theorem test_emergencyAssert :
    (let s := after (.emergencyAssert .B) State.reset;
      (s.b.state, s.a.state, s.journal.records.length, s.events)) = (.halted, .idle, 2, 0x49#8) := by decide +kernel
theorem test_emergencyRelease : (after (.emergencyRelease .B) (after (.emergencyAssert .B) State.reset)).b.state = .halted := by
  decide +kernel
/-- R205: an assertion that one engine took and that was then released is still taken by the other before a request. -/
theorem test_emergency_reversed :
    (let s := after (.nop []) (after (.emergencyRelease .A) (after (.emergencyAssert .A) State.reset));
      (s.a.state, s.b.state, s.b.lines.emergency, s.journal.records.length)) = (.halted, .halted, false, 3) := by decide +kernel
/-- R205: the other engine's assertion is that same report, so that the first engine takes no second one. -/
theorem test_emergency_once :
    (let s := after (.nop []) (after (.resumeAxis 1#8 []) (after (.emergencyAssert .B) (after (.emergencyRelease .A)
      (after (.emergencyAssert .A) State.reset))));
      (s.a.state, s.b.state, s.pins.emergency, s.journal.records.length)) = (.idle, .halted, false, 3) := by decide +kernel
/-- R72, R205: a fall that axis B's engine took and that was then reversed still releases axis A's move. -/
theorem test_sync_reversed :
    (after (.nop []) (after (.syncHigh .B) (after (.syncFallingEdge .B)
      (withA .armed (some (slot (mv .run .line 0#32) none .none 0)) [])))).a.state = .running := by decide +kernel
theorem test_syncFallingEdge :
    (after (.syncFallingEdge .A) (withA .armed (some (slot (mv .run .line 0#32) none .none 0)) [])).a.state = .running ∧
      (after (.syncFallingEdge .A) (withA .armed (some (slot (mv .run .pair 0#32) none .none 0)) [])).a.state = .armed := by
  decide +kernel
theorem test_syncHigh : (after (.syncHigh .A) (after (.syncFallingEdge .A) State.reset)).a.lines.syncHigh = true := by decide +kernel
/-- Chapter 3, two moves and a drain: level 1 runs at 2,000 pps, 8,000 reference periods. -/
theorem test_pulse :
    (let s := after (.pulse .A) (withA .running (some (slot (mv .relative .now 6#32) (some 6) .accel 0)) []);
      (s.a.position, s.a.stepEdges, s.a.slot.map (fun sl => (sl.level, sl.interval)))) = (1#32, 1, some (1, some 8000)) := by
  decide +kernel
theorem test_dwellTimeout :
    (after (.dwellTimeout .A) (withA .running (some (slot (mv .dwell .now 5#32) none .wait 0)) [])).a.state = .idle := by decide +kernel
theorem test_armTimeout :
    (let s := after (.armTimeout .A) (withA .armed (some { slot (mv .run .line 0#32) none .none 0 with armTimer := some 200 }) []);
      (s.a.state, s.journal.records.getLast?.map (·.entry.cause))) = (.halted, some .armTimeout) := by decide +kernel
/-- Chapter 8: at 126 an axis is BLOCKED. -/
theorem test_admissionAttempt :
    (after (.admissionAttempt .A) (withA .idle none [mv .run .now 0#32])).a.state = .running ∧
      (after (.admissionAttempt .A) (holding (withA .idle none [mv .run .now 0#32]) 126 1#16)).a.state = .blocked := by decide +kernel
theorem test_chipSelectFall :
    (after .chipSelectFall State.reset).dataOutDriven = true ∧ (after .chipSelectFall (after .pinReset State.reset)).dataOutDriven = false
    := by decide +kernel
/-- Chapter 3, resolving targets. -/
theorem test_targets :
    resolveTarget 994#32 1000#32 = .ok (some .minus, some 6) ∧ resolveTarget 16777215#32 0#32 = .ok (some .plus, some 16777215) ∧
      resolveTarget 16777216#32 0#32 = .error .range ∧ resolveTarget (-16777220) (-5) = .ok (some .minus, some 16777215) ∧
      resolveTarget (-2147483000) 2147483000#32 = .ok (some .plus, some 1296) := by decide +kernel

/-! ### Witnesses: states and operands that meet the hypotheses of each obligation, clause by clause -/

/-- The part with the emergency line asserted, taken by axis A's engine and outstanding to axis B's. -/
def reported : State := after (.emergencyAssert .A) State.reset

/-- The part with a sync fall and then an assertion of the emergency line outstanding to both engines. -/
def bothReported : State := lineChanged (lineChanged State.reset (.sync false)) (.emergency true)

/-- The part held by its reset line. -/
def held : State := after .pinReset State.reset

/-- Axis A in a dwell, with the check code over the part as it stands. -/
def dwelling : State := State.seal (withA .running (some (slot (mv .dwell .now 5#32) none .wait 0)) [])

/-- Axis A ARMED. -/
def armed : State := withA .armed (some (slot (mv .run .line 0#32) none .none 0)) []

/-- Axis A in CRUISE at level 4 of a RUN move. -/
def cruising : State := withA .running (some (slot (mv .run .now 0#32) none .cruise 4)) []

/-- Axis A STOPPING at a level. -/
def stopping (level : Nat) : State := withA .stopping (some (stoppingSlot level)) []

/-- Eight marks in ascending id from a number on, all at 5 with sense UP. -/
def marksFrom (n k : Nat) : List Mark := (List.range k).map (fun i => ⟨BitVec.ofNat 8 (n + i), 5#32, .up⟩)

/-- The part with marks on axis A. -/
def withMarks (ms : List Mark) : State := { State.reset with a := { AxisUnit.cold with marks := ms } }

/-- A request meets the part right after power-on: the one hypothesis of these obligations and of every clause of theirs that names no
other. -/
theorem witness_linkReady :
    State.reset.linkReady = true ∧ armed.linkReady = true ∧ cruising.linkReady = true ∧ (stopping 0).linkReady = true := by
  decide +kernel

theorem witness_StepTakesTheFrontCommand :
    ({ State.reset with pending := [.nop [], .powerOn] } : State).pending = .nop [] :: [.powerOn] ∧ State.reset.pending = [] := by
  decide +kernel

theorem witness_CommandsCompleteAndLeaveTheQueue :
    [0x01#8, 0x00#8, 0x15#8] ≠ [] ∧ linkCheck ([0x01#8, 0x00#8, 0x15#8].take 67) = none ∧ State.reset.linkTakes = true := by
  decide +kernel

theorem witness_RequestFramesDecode :
    (Instr.queueMoves 3#8 (List.replicate 4 (rawMv 6 2 65535)) []).wellFormed = true ∧
      (frameOfRequest (.queueMoves 3#8 (List.replicate 4 (rawMv 6 2 65535)) [])).map List.length = some 56 := by decide +kernel

theorem witness_DamagedFramesAreRejected :
    (Instr.clearEvents 12#8 []).wellFormed = true ∧ frameOfRequest (.clearEvents 12#8 []) = some [0x41#8, 1#8, 0x0C#8, 0xDC#8] ∧
      (0 < 1 ∧ 1 < 4) ∧ (0 < 3 ∧ 3 < 4) ∧
      (0 ≠ 1 ∧ ([0x41#8, 1#8, 0x0C#8, 0xDC#8] : List Byte)[0]? ≠ some 0x40#8) ∧
      (3 ≠ 1 ∧ ([0x41#8, 1#8, 0x0C#8, 0xDC#8] : List Byte)[3]? ≠ some 0xDD#8) := by decide +kernel

theorem witness_FailedFramesAreAnsweredByTheLink :
    ([0x01#8] : List Byte).length < 2 ∧ 64 < (65#8).toNat ∧ ([0x10#8, 2#8, 0#8, 0#8] : List Byte).length < 3 + (2#8).toNat ∧
      ((64#8).toNat ≤ 64 ∧ 3 + (0#8).toNat ≤ ([0x01#8, 0#8, 0x14#8] : List Byte).length ∧
        ([0x14#8] : List Byte)[0]? ≠ some (crc8 [0x01#8, 0#8])) ∧
      (([crc8 [0x77#8, 0#8]] : List Byte)[0]? = some (crc8 [0x77#8, 0#8]) ∧ ∀ k ∈ RequestKind.all, k.code ≠ 0x77#8) ∧
      RequestKind.nop.code = 0x01#8 ∧
      (reported.linkTakes = true ∧ linkCheck ([0x01#8, 0#8, 0x14#8].take 67) = some .crcError) := by decide +kernel

theorem witness_ChipSelectFallFixesTheReply :
    (after .chipSelectFall State.reset).link.chipSelect = .low ∧
      exec (.nop [7#8]) (after .chipSelectFall State.reset) = .next (after (.nop [7#8]) (after .chipSelectFall State.reset)) ∧
      (after (.nop [7#8]) (after .chipSelectFall State.reset)).power = .running ∧
      (after .chipSelectFall State.reset).power = .running ∧
      (after .chipSelectFall State.reset).link.shifted = some Reply.restarted ∧
      (frameOfRequest (.nop [7#8])).map (· ++ fillerOfRequest (.nop [7#8])) = some [1#8, 0#8, 0x15#8, 7#8] ∧
      exec (.frameRejected [1#8]) (after .chipSelectFall State.reset) =
        .next (after (.frameRejected [1#8]) (after .chipSelectFall State.reset)) :=
  ⟨by decide +kernel, rfl, by decide +kernel, by decide +kernel, by decide +kernel, by decide +kernel, rfl⟩

theorem witness_IgnoredTransactionsDoNothing :
    (Instr.nop []).isTransaction = true ∧ held.power ≠ .running ∧ (after .chipSelectFall held).link.chipSelect = .ignored ∧
      (after (.pinResetRelease false) (after .chipSelectFall held)).power = .running ∧
      (after (.pinResetRelease false) (after .chipSelectFall held)).link.chipSelect = .ignored := by decide +kernel

theorem witness_OutstandingReportsComeFirst :
    (bothReported.power = .running ∧ (bothReported.axis .A).reports = .sync false :: [.emergency true]) ∧
      (reported.power = .running ∧ (reported.axis .B).reports = .emergency true :: [] ∧ reported.a.reports = []) ∧
      (State.reset.a.reports = [] ∧ State.reset.b.reports = []) ∧
      ((Instr.nop []).wellFormed = true ∧ (payloadOfRequest (.nop [])).isSome = true ∧ bothReported.linkTakes = true ∧
        bothReported.linkReady = false) := by decide +kernel

theorem witness_HeldPartTakesNothing :
    held.power ≠ .running ∧ exec (.homeAssert .A) held = .next (after (.homeAssert .A) held) := ⟨by decide +kernel, rfl⟩

theorem witness_GetStatusReportsThePart :
    State.reset.linkReady = true ∧ State.reset.a.slot = none ∧
      (cruising.a.slot = some (slot (mv .run .now 0#32) none .cruise 4) ∧ cruising.a.emitting = true) ∧
      (armed.a.slot = some (slot (mv .run .line 0#32) none .none 0) ∧ armed.a.emitting = false) := by decide +kernel

theorem witness_RatesAndIntervals : (1 ≤ 1 ∧ 1 ≤ 1) ∧ (1 ≤ 65535 ∧ 1 ≤ 200000) ∧ 1 ≤ 1 := by decide

theorem witness_ReadProfileReadsBack :
    State.reset.linkReady = true ∧ 7 < (8#8).toNat ∧ (7 : Fin 8).val = (7#8).toNat ∧
      exec (.writeProfile 7#8 ⟨1#32, 200000#32, 65535#16, 255#16, 1#8, 0#8⟩ []) State.reset =
        .next (after (.writeProfile 7#8 ⟨1#32, 200000#32, 65535#16, 255#16, 1#8, 0#8⟩ []) State.reset) ∧
      (after (.writeProfile 7#8 ⟨1#32, 200000#32, 65535#16, 255#16, 1#8, 0#8⟩ []) State.reset).link.slot.status = .ok :=
  ⟨by decide +kernel, by decide, by decide, rfl, by decide +kernel⟩

theorem witness_QueueMovesIsAllOrNone :
    State.reset.linkReady = true ∧ (1 ≤ 1 ∧ 1 ≤ 4) ∧ (1 ≤ 4 ∧ 4 ≤ 4) ∧ namesNoAxis 3#8 ∧
      checkMove (rawMv 1 0 16777215) = .ok (mv .relative .now 16777215) ∧ checkMove (rawMv 1 0 16777216) = .error .value ∧
      List.Forall₂ (fun r m => checkMove r = .ok m) [rawMv 1 0 16777215] [mv .relative .now 16777215] :=
  ⟨by decide +kernel, by decide, by decide, ⟨by decide, by decide⟩, rfl, rfl, .cons rfl .nil⟩

theorem witness_FlushEmptiesTheNamedQueues :
    State.reset.a.queue = [] ∧ (withA .blocked none [mv .run .now 0#32]).a.queue = mv .run .now 0#32 :: [] ∧
      ([mv .run .now 0#32] : List Move).getLast? = some (mv .run .now 0#32) ∧ State.reset.linkReady = true ∧
      namesNoAxes 0#8 ∧ namesNoAxes 4#8 :=
  ⟨by decide +kernel, rfl, rfl, by decide +kernel, ⟨by decide, by decide, by decide⟩, ⟨by decide, by decide, by decide⟩⟩

theorem witness_ClaimsAreJudgedAt126 :
    let s := holding (withA .idle none [mv .run .now 0#32]) 125 1#16
    let t := holding (withA .idle none [mv .run .now 0#32]) 126 1#16
    s.journal.records.length + s.journal.reserved ≤ 125 ∧ 126 ≤ t.journal.records.length + t.journal.reserved ∧
      s.a.state = .idle ∧ s.a.queue = mv .run .now 0#32 :: [] ∧ t.a.state = .idle ∧ t.a.queue = mv .run .now 0#32 :: [] := by
  decide +kernel

theorem witness_EndingWritesItsRecordAndMovesOn :
    (cruising.axis .A).slot = some (slot (mv .run .now 0#32) none .cruise 4) := by decide +kernel

theorem witness_StopsActByStateStyleAndLevel :
    ((armed.axis .A).state = .armed ∧ ((armed.axis .A).slot).isSome = true) ∧
      ((dwelling.axis .A).state = .running ∧ (dwelling.axis .A).phase = .wait) ∧
      ((cruising.axis .A).state = .running ∧ (cruising.axis .A).slot = some (slot (mv .run .now 0#32) none .cruise (3 + 1)) ∧
        Phase.cruise.pulsing = true) ∧
      (((stopping 1).axis .A).state = .stopping ∧ ((stopping 1).axis .A).slot = some (stoppingSlot 1) ∧
        (stoppingSlot 1).stop = some hostPending) := by decide +kernel

theorem witness_HostStopActsOnWhatTheAxisHolds :
    (cruising.axis .A).state.holdsMove = true ∧ (State.reset.axis .A).state.holdsMove = false ∧
      (State.reset.axis .A).state = .idle ∧ ((withA .blocked none [mv .run .now 0#32]).axis .A).state = .blocked ∧
      ((withA .halted none []).axis .A).state = .halted := by decide +kernel

theorem witness_StopAxisStopsTheNamedAxes :
    State.reset.linkReady = true ∧ namesNoAxes 0#8 ∧ ¬namesNoAxes 3#8 ∧ 1 < (2#8).toNat ∧ ((1#8).toNat ≤ 1 ∧ 2 < (3#8).toNat) ∧
      (styleOfCode 1#8 = some .ramped ∧ afterOfCode 2#8 = some .flush) :=
  ⟨by decide +kernel, ⟨by decide, by decide, by decide⟩, fun h => h.2.2 rfl, by decide, by decide, by decide⟩

theorem witness_ResumeAxisReturnsToIdle :
    (withA .halted none []).linkReady = true ∧ (withA .halted none []).a.state = .halted ∧ namesNoAxes 4#8 ∧ ¬namesNoAxes 1#8 ∧
      (after (.nop []) reported).linkReady = true ∧ (after (.nop []) reported).pins.emergency = true :=
  ⟨by decide +kernel, by decide +kernel, ⟨by decide, by decide, by decide⟩, fun h => h.1 rfl, by decide +kernel, by decide +kernel⟩

theorem witness_RetuneRefusals :
    State.reset.linkReady = true ∧ namesNoAxis 3#8 ∧ 200000 < (200001#32).toNat ∧
      ((200000#32 : Word) ≠ 0#32 ∧ (200000#32).toNat ≤ 200000 ∧ State.reset.a.slot = none ∧ (stopping 0).a.state = .stopping) ∧
      (dwelling.a.slot = some (slot (mv .dwell .now 5#32) none .wait 0) ∧ dwelling.a.state = .running ∧ dwelling.linkReady = true) ∧
      (armed.linkReady = true ∧ armed.a.state = .armed ∧ armed.a.slot = some (slot (mv .run .line 0#32) none .none 0) ∧
        (999#32).toNat < (slot (mv .run .line 0#32) none .none 0).snap.base) :=
  ⟨by decide +kernel, ⟨by decide, by decide⟩, by decide, by decide +kernel, by decide +kernel, by decide +kernel⟩

theorem witness_RetuneChangesTheSnapshot :
    (armed.linkReady = true ∧ armed.a.state = .armed ∧ armed.a.slot = some (slot (mv .run .line 0#32) none .none 0)) ∧
      (cruising.linkReady = true ∧ cruising.a.state = .running ∧
        cruising.a.slot = some (slot (mv .run .now 0#32) none .cruise 4)) ∧
      ((200000#32).toNat ≤ 200000 ∧ exampleProfile.snapshot.base ≤ (1000#32).toNat ∧ (1000#32 : Word) ≠ 0#32) := by decide +kernel

theorem witness_SetPositionSetsTheCounter :
    (State.reset.linkReady = true ∧ State.reset.b.state = .idle) ∧ namesNoAxis 0#8 ∧
      (armed.linkReady = true ∧ armed.a.state = .armed) ∧ (cruising.linkReady = true ∧ cruising.a.state = .running) ∧
      ((stopping 0).linkReady = true ∧ (stopping 0).a.state = .stopping) ∧
      ((withA .halted none []).linkReady = true ∧ (withA .halted none []).a.state = .halted) :=
  ⟨by decide +kernel, ⟨by decide, by decide⟩, by decide +kernel, by decide +kernel, by decide +kernel, by decide +kernel⟩

theorem witness_Stations :
    State.reset.linkReady = true ∧ 31 < (32#8).toNat ∧ (31 : Fin 32).val = (31#8).toNat ∧ namesNoAxes 0#8 ∧ ¬namesNoAxes 1#8 ∧
      ¬namesNoAxes 2#8 :=
  ⟨by decide +kernel, by decide, by decide, ⟨by decide, by decide, by decide⟩, fun h => h.1 rfl, fun h => h.2.1 rfl⟩

theorem witness_MarkAddJoinsTheTable :
    namesNoAxis 3#8 ∧ (3 < (4#8).toNat ∧ senseOfCode 4#8 = none) ∧ senseOfCode 3#8 = some .either ∧
      (∃ m ∈ (withMarks (marksFrom 1 8)).a.marks, m.id = 8#8) ∧
      ((∀ m ∈ (withMarks (marksFrom 1 8)).a.marks, m.id ≠ 9#8) ∧ 8 ≤ (withMarks (marksFrom 1 8)).a.marks.length) ∧
      ((∀ m ∈ (withMarks (marksFrom 1 7)).a.marks, m.id ≠ 8#8) ∧ (withMarks (marksFrom 1 7)).a.marks.length < 8 ∧
        marksAscend (withMarks (marksFrom 1 7)).a.marks) ∧
      (withMarks (marksFrom 1 8)).linkReady = true ∧ (withMarks (marksFrom 1 7)).linkReady = true :=
  ⟨⟨by decide, by decide⟩, ⟨by decide, rfl⟩, rfl, by decide +kernel, by decide +kernel, by decide +kernel, by decide +kernel, by decide +kernel⟩

theorem witness_MarksAreRemovedAndListed :
    (∀ m ∈ State.reset.a.marks, m.id ≠ 7#8) ∧
      ((withMarks (marksFrom 1 8)).a.marks = marksFrom 1 7 ++ ⟨8#8, 5#32, .up⟩ :: [] ∧ ∀ k ∈ marksFrom 1 7 ++ [], k.id ≠ 8#8) ∧
      (withMarks (marksFrom 1 8)).linkReady = true := by decide +kernel

theorem witness_ReadJournalReturnsHeldRecords :
    let s := holding State.reset 4 65534#16
    s.linkReady = true ∧ 3 < (4#8).toNat ∧ ((3#8 : Byte) ≠ 0#8 ∧ (3#8).toNat ≤ 3) ∧
      (1#16 - s.journal.oldest).toNat < s.journal.records.length ∧
      (s.journal.records.length ≤ (2#16 - s.journal.oldest).toNat ∧ 2#16 = s.journal.seq) ∧
      (s.journal.records.length ≤ (65533#16 - s.journal.oldest).toNat ∧ 65533#16 ≠ s.journal.seq) ∧
      s.journal.records.length ≤ 128 ∧
      (Record.bytes ⟨65535#16, Entry.halt .B .reset 0x80000000#32⟩)[3]? = some 0xE2#8 := by decide +kernel

theorem witness_sequenceLaw : (holding State.reset 2 65535#16).journal.SequenceLaw ∧
    ({ State.reset.journal with records := [] } : Journal).SequenceLaw :=
  ⟨⟨by decide +kernel, by decide +kernel, trivial⟩, trivial⟩

theorem witness_AckJournalRemovesAndServes :
    let s := holding State.reset 4 65534#16
    s.linkReady = true ∧ (0#16 - s.journal.oldest).toNat < s.journal.records.length ∧
      s.journal.records.length ≤ (2#16 - s.journal.oldest).toNat := by decide +kernel

theorem witness_FreedSpaceIsServedInOrder :
    let s := holding (withA .blocked none [mv .run .now 0#32]) 125 1#16
    (State.reset.journal.lost = 0 ∧ State.reset.journal.waitList = []) ∧
      126 ≤ (holding State.reset 126 1#16).journal.records.length + (holding State.reset 126 1#16).journal.reserved ∧
      (s.journal.lost = 0 ∧ s.journal.waitList = .A :: [] ∧ s.journal.records.length + s.journal.reserved ≤ 125) ∧
      0 < ({ s.journal with lost := 65535 } : Journal).lost := by decide +kernel

theorem witness_ReadEventsNamesTheLeadingEvent :
    State.reset.linkReady = true ∧ (∀ e, State.reset.isPending e = true ∧ State.reset.settings.enableMask.getLsbD e.bit = true ↔
      State.reset.isPending e = true ∧ State.reset.settings.enableMask.getLsbD e.bit = true) :=
  ⟨by decide +kernel, fun _ => Iff.rfl⟩

theorem witness_ColdInitialisationLeavesTheColdValues :
    State.reset.resetLow = false ∧ (after .pinReset (after .supplyOutOfRange State.reset)).resetLow = true := by decide +kernel

theorem witness_WarmRecoveryReportsAndResets :
    let full := State.seal { holding State.reset 127 1#16 with
      journal := { (holding State.reset 127 1#16).journal with
        records := (holding State.reset 127 1#16).journal.records ++ [⟨128#16, Entry.restart .pin 1#16 0#16⟩], seq := 129#16 } }
    cruising.journal.records.length + (interruptedEntries .A cruising.a ++ interruptedEntries .B cruising.b).length < 128 ∧
      (128 ≤ full.journal.records.length + (interruptedEntries .A full.a ++ interruptedEntries .B full.b).length ∧
        full.journal.records ++ numbered full.journal.seq (interruptedEntries .A full.a ++ interruptedEntries .B full.b) =
          (holding State.reset 127 1#16).journal.records ++ [⟨128#16, Entry.restart .pin 1#16 0#16⟩] ∧
        (Entry.restart .pin 1#16 0#16).extra = some (1#16, 0#16)) := by decide +kernel

theorem witness_ResetsVerifyTheRetainedSet :
    State.reset.power = .running ∧ (held.power = .heldPin ∧ held.check = held.retained) ∧
      (({ held with coldFlag := false, a := { held.a with position := 1#32 } } : State).check ≠
        ({ held with coldFlag := false, a := { held.a with position := 1#32 } } : State).retained) ∧
      (State.reset.linkReady = true ∧ State.reset.check = State.reset.retained) ∧
      (armed.linkReady = true ∧ ({ armed with coldFlag := true, a := { armed.a with position := 1#32 } } : State).check ≠
        ({ armed with coldFlag := true, a := { armed.a with position := 1#32 } } : State).retained) := by decide +kernel

theorem witness_LimitAssertionStopsTheMoveTowardIt :
    (limitLevel (cruising.axis .A).lines .plus = false ∧ cruising.power = .running ∧ (cruising.axis .A).emitting = true ∧
        (cruising.axis .A).slot = some (slot (mv .run .now 0#32) none .cruise 4) ∧
        (slot (mv .run .now 0#32) none .cruise 4).direction = some .plus ∧
        (slot (mv .run .now 0#32) none .cruise 4).direction ≠ some .minus) ∧
      (armed.axis .A).emitting = false ∧ limitLevel ((after (.limitAssert .A .plus) armed).axis .A).lines .plus = true := by decide +kernel

/-- Axis A seeking home with a capture. -/
def seeking (st : AxisState) (ph : Phase) (stop : Option PendingStop) : State :=
  withA st (some { slot ⟨.home, 0, .now, .plus, true, 0#8, 1#16, 50#32, 9#32⟩ (some 50) ph 1 with stop := stop }) []

theorem witness_HomeAssertionCapturesAndStops :
    ((seeking .running .accel none).a.emitting = true ∧ (seeking .running .accel none).a.state = .running ∧
        (seeking .running .accel none).a.slot.map (·.move.kind) = some .home) ∧
      ((seeking .stopping .stopping (some hostPending)).a.emitting = true ∧
        (seeking .stopping .stopping (some hostPending)).a.state = .stopping ∧
        (seeking .stopping .stopping (some hostPending)).a.slot.bind (·.stop) = some hostPending) ∧
      (cruising.a.lines.home = false ∧ cruising.a.slot.map (·.move.kind) = some .run) ∧ State.reset.a.emitting = false ∧
      (after (.homeAssert .A) State.reset).a.lines.home = true := by decide +kernel

theorem witness_ReleasesChangeLevelsAlone :
    reportMeets (after (.emergencyRelease .A) reported) .B (.emergency false) (after (.emergencyRelease .A) reported) ∧
      ((after (.emergencyRelease .A) reported).axis .B).reports = [.emergency true] ++ .emergency false :: [] ∧
      (reportMeets reported .A (.emergency false) (lineChanged reported (.emergency false)) ∧
        ((lineChanged reported (.emergency false)).axis .A).reports = [] ++ .emergency false :: []) ∧
      (reportMeets (after (.syncFallingEdge .A) State.reset) .A (.sync true)
          (lineChanged (after (.syncFallingEdge .A) State.reset) (.sync true)) ∧
        ((lineChanged (after (.syncFallingEdge .A) State.reset) (.sync true)).axis .A).reports = [] ++ .sync true :: []) :=
  ⟨.inl (by decide +kernel), by decide +kernel, ⟨.inr ⟨by decide +kernel, by decide +kernel, rfl⟩, by decide +kernel⟩,
    .inr ⟨by decide +kernel, by decide +kernel, rfl⟩, by decide +kernel⟩

theorem witness_SharedLinesActOnTheirEngine :
    (cruising.power = .running ∧ cruising.a.lines.emergency = false ∧ cruising.a.state.holdsMove = true ∧
        reportMeets cruising .A (.emergency true) (lineChanged cruising (.emergency true)) ∧
        ((lineChanged cruising (.emergency true)).axis .A).reports = [] ++ .emergency true :: []) ∧
      (bothReported.power = .running ∧ reportMeets bothReported .A (.emergency true) bothReported ∧
        (bothReported.axis .A).reports = [.sync false] ++ .emergency true :: [] ∧ bothReported.a.state = .idle ∧
        bothReported.a.lines.emergency = false) ∧
      ((withA .blocked none [mv .run .now 0#32]).a.state = .blocked) ∧ (after (.emergencyAssert .A) State.reset).a.state = .halted ∧
      (armed.a.slot = some (slot (mv .run .line 0#32) none .none 0) ∧ armed.a.state = .armed ∧ armed.a.lines.syncHigh = true ∧
        reportMeets armed .A (.sync false) (lineChanged armed (.sync false)) ∧
        ((lineChanged armed (.sync false)).axis .A).reports = [] ++ .sync false :: []) ∧
      (after (.syncFallingEdge .A) State.reset).a.lines.syncHigh = false :=
  ⟨⟨by decide +kernel, by decide +kernel, by decide +kernel, .inr ⟨by decide +kernel, by decide +kernel, rfl⟩, by decide +kernel⟩,
    ⟨by decide +kernel, .inl (by decide +kernel), by decide +kernel, by decide +kernel, by decide +kernel⟩, by decide +kernel,
    by decide +kernel,
    ⟨by decide +kernel, by decide +kernel, by decide +kernel, .inr ⟨by decide +kernel, by decide +kernel, rfl⟩, by decide +kernel⟩,
    by decide +kernel⟩

/-- A report taken behind another of its line, and one of the level that the line has. -/
theorem witness_reportsOfOneLine :
    let s := after (.emergencyRelease .A) reported
    reportMeets s .B (.emergency false) s ∧ (s.axis .B).reports = [] ++ .emergency true :: [.emergency false] ∧
      ofOneLine (.emergency true) (.emergency false) ∧ Report.emergency true ≠ .emergency false ∧
      exec (reportCommand .B (.emergency true)) s = .next (after (.emergencyAssert .B) s) ∧
      (Report.emergency false ∉ (State.reset.axis .A).reports ∧ pinAt State.reset (.emergency false) = true) :=
  ⟨.inl (by decide +kernel), by decide +kernel, .inl ⟨true, false, rfl, rfl⟩, by decide, rfl, by decide +kernel, by decide +kernel⟩

/-- The part with axis A's slot and its lines. -/
def starting (m : Move) (distance : Option Nat) (home limit : Bool) : State :=
  { withA .armed (some (slot m distance .none 0)) [] with
    a := { (withA .armed (some (slot m distance .none 0)) []).a with
      lines := { Lines.rest with home := home, limitPlus := limit } } }

theorem witness_StartChecksDecideTheStart :
    (mv .dwell .line 5#32).kind = .dwell ∧ (mv .relative .line 0#32).kind ≠ .dwell ∧
      ((starting (mv .home .line 5#32) (some 5) true false).axis .A).lines.home = true ∧
      limitLevel ((starting (mv .relative .line 5#32) (some 5) false true).axis .A).lines .plus = true ∧
      limitLevel ((starting (mv .relative .line 5#32) (some 5) false false).axis .A).lines .plus = false ∧
      (slot (mv .relative .line 0#32) (some 0) .none 0).distance = some 0 ∧
      (slot (mv .relative .line 5#32) (some 5) .none 0).distance ≠ some 0 := by decide +kernel

theorem witness_TargetsResolve :
    (mv .station .now 31#32).value.toNat = (31 : Fin 32).val ∧ (0#32 - 0#32 : Word).toInt = 0 ∧
      (16777215#32 - 0#32 : Word).toInt = 16777215 ∧ (0#32 - 16777215#32 : Word).toInt = -16777215 ∧
      16777215 < (16777216#32 - 0#32 : Word).toInt ∧ (0#32 - 16777216#32 : Word).toInt < -16777215 ∧
      resolveTarget (-2147483000) 2147483000#32 = .ok (some .plus, some 1296) := by decide +kernel

/-- Axis A IDLE with one queued record, and axis B ARMED with a PAIR move or idle. -/
def arriving (m : Move) (other : Bool) : State :=
  { withA .idle none [m] with
    b := if other then { AxisUnit.cold with state := .armed, slot := some (slot (mv .relative .pair 5#32) (some 5) .none 0) }
      else AxisUnit.cold }

theorem witness_AdmissionAttemptAdmitsTheHead :
    (State.reset.power = .running ∧ (State.reset.axis .A).queue = []) ∧
      ((arriving (mv .run .now 0#32) false).a.state = .idle ∧ (arriving (mv .run .now 0#32) false).a.queue = mv .run .now 0#32 :: [] ∧
        (arriving (mv .run .now 0#32) false).journal.records.length + (arriving (mv .run .now 0#32) false).journal.reserved ≤ 125) ∧
      (holding (arriving (mv .run .now 0#32) false) 126 1#16).journal.records.length = 126 ∧
      (arriving (mv .station .now 4#32) false).resolve .A (mv .station .now 4#32) = .error .noStation ∧
      (arriving (mv .run .now 0#32) false).resolve .A (mv .run .now 0#32) = .ok (some .plus, none) ∧
      ((mv .run .line 0#32).start = .line ∧ (mv .run .pair 0#32).start = .pair) ∧
      (arriving (mv .run .pair 0#32) false).b.slot = none ∧
      ((arriving (mv .run .pair 0#32) true).b.slot = some (slot (mv .relative .pair 5#32) (some 5) .none 0) ∧
        (arriving (mv .run .pair 0#32) true).b.state = .armed) := by decide +kernel

/-- Both axes ARMED with PAIR moves, B's of a number, with A's and B's + limit at levels. -/
def paired (numberB : Byte) (limitA limitB : Bool) : State :=
  { State.reset with
    a := { AxisUnit.cold with
      state := .armed, slot := some (slot (mv .relative .pair 5#32) (some 5) .none 0), lines := { Lines.rest with limitPlus := limitA } }
    b := { AxisUnit.cold with
      state := .armed, slot := some (slot { mv .relative .pair 5#32 with pair := numberB } (some 5) .none 0)
      lines := { Lines.rest with limitPlus := limitB } }
    journal := { State.reset.journal with reserved := 2 } }

theorem witness_SecondArrivalDecidesThePair :
    (paired 5#8 true false).a.slot = some (slot (mv .relative .pair 5#32) (some 5) .none 0) ∧
      (paired 5#8 true false).b.slot = some (slot (mv .relative .pair 5#32) (some 5) .none 0) ∧
      (paired 6#8 false false).b.slot.map (·.move.pair) = some 6#8 ∧ limitLevel (paired 5#8 true true).b.lines .plus = true ∧
      limitLevel (paired 5#8 false true).b.lines .plus = true ∧ limitLevel (paired 5#8 false false).a.lines .plus = false := by decide +kernel

theorem witness_PulseTakesItsFiveSteps :
    let s : State := { cruising with a := { cruising.a with marks := [⟨3#8, 1#32, .up⟩, ⟨4#8, 1#32, .down⟩, ⟨5#8, 2#32, .either⟩] } }
    (State.reset.power = .running ∧ (State.reset.axis .A).emitting = false) ∧
      (s.power = .running ∧ (s.axis .A).emitting = true ∧ (s.axis .A).slot = some (slot (mv .run .now 0#32) none .cruise 4) ∧
        (slot (mv .run .now 0#32) none .cruise 4).direction = some .plus ∧
        (s.axis .A).marks.filter (fun m => m.position == (s.axis .A).position + 1#32 && (m.sense == .either || m.sense == .up)) =
          [⟨3#8, 1#32, .up⟩]) := by decide +kernel

theorem witness_RateLawFollowsEachPulse :
    (cruising.axis .A).state = .running ∧ ((stopping 0).axis .A).state = .stopping ∧
      ((some 6 : Option Nat) = some 6 ∧ 6 ≤ (6#32).toNat ∧ (5#32).toNat < 6) ∧
      (6 - (2#32).toNat ≤ 4 + exampleProfile.snapshot.settle ∧ 3 + exampleProfile.snapshot.settle < 6 - (2#32).toNat) ∧
      (slot (mv .run .now 0#32) none .cruise 4).distance = none ∧
      ((stoppingSlot 0).stop = some hostPending ∧ (stoppingSlot 0).phase = .stopping ∧ (stoppingSlot 0).level = 0 ∧
        0 < (stoppingSlot 1).level ∧ (stoppingSlot 1).distance = none) := by decide +kernel

theorem witness_TimersEndTheirMoves :
    (dwelling.power = .running ∧ dwelling.a.slot = some (slot (mv .dwell .now 5#32) none .wait 0) ∧ dwelling.a.state = .running) ∧
      (armed.power = .running ∧ armed.a.state = .armed ∧ (armed.a.slot.map (·.armTimer)) = some none) ∧
      State.reset.a.slot = none ∧
      (let s := withA .armed (some { slot (mv .run .line 0#32) none .none 0 with armTimer := some 65535 }) [];
        s.a.state = .armed ∧ s.a.slot.map (·.armTimer) = some (some 65535)) := by decide +kernel

theorem dwelling_engineLaws : dwelling.EngineLaws := by
  constructor <;> decide +kernel

theorem witness_StepsKeepTheEngineLaws :
    ({ dwelling with pending := [.dwellTimeout .A] } : State).EngineLaws ∧
      ∃ t, step { dwelling with pending := [.dwellTimeout .A] } = .next t :=
  ⟨by constructor <;> decide +kernel, _, rfl⟩

theorem witness_StepsKeepTheEmergencyLaw :
    (let s : State := { reported with pending := [.resumeAxis 1#8 []] };
      s.EngineLaws ∧ s.a.EmergencyLaw ∧ s.b.EmergencyLaw ∧ s.LineLaw ∧ s.b.reports = [.emergency true] ∧ ∃ t, step s = .next t) :=
  ⟨by constructor <;> decide +kernel, by decide +kernel, by decide +kernel, by decide +kernel, by decide +kernel, _, rfl⟩

theorem witness_StepsKeepTheTableLaws :
    ({ dwelling with pending := [.dwellTimeout .A] } : State).TableLaws ∧
      ∃ t, step { dwelling with pending := [.dwellTimeout .A] } = .next t := by
  refine ⟨?_, _, rfl⟩
  constructor
  case sequence => exact ⟨by decide +kernel, trivial⟩
  all_goals decide +kernel

theorem witness_StepsKeepTheCheckCode :
    ({ dwelling with pending := [.dwellTimeout .A] } : State).CheckLaw ∧
      ∃ t, step { dwelling with pending := [.dwellTimeout .A] } = .next t := ⟨by decide +kernel, _, rfl⟩

/-- Axis A ARMED in pair 5, axis B BLOCKED before a PAIR move of pair 6, and the journal at 126 held plus reserved. -/
def claimWaits : State :=
  State.seal { paired 5#8 false false with
    b := { AxisUnit.cold with state := .blocked, queue := [{ mv .relative .pair 5#32 with pair := 6#8 }] }
    journal := { (holding State.reset 125 1#16).journal with reserved := 1, waitList := [.B] } }

theorem witness_EveryEndingIsRecorded :
    dwelling.EngineLaws ∧ dwelling.CheckLaw ∧ exec (.dwellTimeout .A) dwelling = .next (after (.dwellTimeout .A) dwelling) ∧
      payloadOfRequest (.dwellTimeout .A) = none ∧ dwelling.power ≠ .heldPowerOn ∧
      dwelling.a.slot = some (slot (mv .dwell .now 5#32) none .wait 0) ∧ (after (.dwellTimeout .A) dwelling).a.slot = none ∧
      (claimWaits.EngineLaws ∧ claimWaits.CheckLaw ∧ claimWaits.linkReady = true ∧
        claimWaits.a.slot = some (slot (mv .relative .pair 5#32) (some 5) .none 0) ∧
        (after (.ackJournal 1#16 []) claimWaits).a.slot = none ∧ acknowledgedCount claimWaits (.ackJournal 1#16 []) = 1) :=
  ⟨dwelling_engineLaws, by decide +kernel, rfl, by decide, by decide +kernel, by decide +kernel, by decide +kernel,
    by constructor <;> decide +kernel, by decide +kernel, by decide +kernel, by decide +kernel, by decide +kernel, by decide +kernel⟩

theorem witness_HeldRecordsAreOnlyAdded :
    exec (.dwellTimeout .A) dwelling = .next (after (.dwellTimeout .A) dwelling) ∧
      (after (.dwellTimeout .A) dwelling).journal.records.length = 2 := ⟨rfl, by decide +kernel⟩

theorem witness_EnginesLeaveEachOtherAlone :
    exec (.pulse .A) cruising = .next (after (.pulse .A) cruising) ∧ (after (.pulse .A) cruising).a.position = 1#32 ∧
      exec (.emergencyAssert .A) State.reset = .next reported ∧ reported.b.reports = State.reset.b.reports ++ [.emergency true] :=
  ⟨rfl, by decide +kernel, rfl, by decide +kernel⟩

end Sys2Proof.Tests
end

section
/-! SUPPORT. Move records and the move queues (chapter 1): a record's checks against R6's table, and QUEUE MOVES. -/

namespace Sys2Proof.Machine

/-! ### A move record's checks (R2 to R6): what each row of R6's table means to `checkMove` -/

/-- The nibble of a move kind (12.3). -/
def MoveKind.code : MoveKind → BitVec 4
  | .relative => 1#4
  | .absolute => 2#4
  | .station => 3#4
  | .run => 4#4
  | .home => 5#4
  | .dwell => 6#4

theorem moveKindOfCode_eq_some {n : BitVec 4} {k : MoveKind} : moveKindOfCode n = some k ↔ n = k.code := by
  cases k <;> revert n <;> decide

theorem startOfCode_eq_some_pair {n : BitVec 4} : startOfCode n = some .pair ↔ n = 2#4 := by
  revert n; decide

theorem captureOfCode_eq_some_true {n : BitVec 2} : captureOfCode n = some true ↔ n = 1#2 := by
  revert n; decide

/-- The kind nibble fails where it is no kind's. -/
theorem moveFieldFails_kind (r : RawMove) : moveFieldFails r .kind = (moveKindOfCode r.kind).isNone := by
  have codes : ∀ n : BitVec 4, decide (n = 0#4 ∨ 6 < n.toNat) = (moveKindOfCode n).isNone := by decide
  exact codes r.kind

/-- The profile fails where no entry of the table has its number (R5). -/
theorem moveFieldFails_profile (r : RawMove) : moveFieldFails r .profile = !decide (r.profile.toNat < 8) := by
  rw [Bool.eq_iff_iff]
  simp [moveFieldFails]
  omega

/-- The start nibble fails where it is no start's. -/
theorem moveFieldFails_start (r : RawMove) : moveFieldFails r .start = (startOfCode r.start).isNone := by
  have codes : ∀ n : BitVec 4, decide (2 < n.toNat) = (startOfCode n).isNone := by decide
  exact codes r.start

/-- The pair number is judged by the start (R3). -/
theorem moveFieldFails_pair (r : RawMove) (st : Start) (h : startOfCode r.start = some st) :
    moveFieldFails r .pair = !st.admitsPair r.pair := by
  have hpair : r.start = 2#4 ↔ st = .pair := by rw [← startOfCode_eq_some_pair, h, Option.some.injEq]
  have hzero : r.pair = 0#8 ↔ r.pair.toNat = 0 := by bv_omega
  rw [Bool.eq_iff_iff]
  cases st <;> simp [moveFieldFails, Start.admitsPair, hpair, hzero]

/-- The direction bits fail where they are no direction's, or where the kind must hold + and they are not (R2). -/
theorem moveFieldFails_direction (r : RawMove) (k : MoveKind) (h : moveKindOfCode r.kind = some k) :
    moveFieldFails r .direction =
      ((directionOfCode r.direction).isNone || (k.fixedDirection && directionOfCode r.direction == some .minus)) := by
  have codes : ∀ n : BitVec 2, decide (1 < n.toNat) = (directionOfCode n).isNone ∧
      decide (n = 1#2) = (directionOfCode n == some .minus) := by decide
  obtain ⟨hbad, hminus⟩ := codes r.direction
  rw [← hbad, ← hminus]
  cases k <;> simp [moveFieldFails, moveKindOfCode_eq_some.1 h, MoveKind.code, MoveKind.fixedDirection]

/-- The capture bits fail where they are no capture's, or where they ask for one and the move is not a homing move (R4). -/
theorem moveFieldFails_capture (r : RawMove) (k : MoveKind) (h : moveKindOfCode r.kind = some k) :
    moveFieldFails r .capture =
      ((captureOfCode r.capture).isNone || (captureOfCode r.capture == some true && k != .home)) := by
  have codes : ∀ n : BitVec 2, decide (1 < n.toNat) = (captureOfCode n).isNone ∧
      decide (n = 1#2) = (captureOfCode n == some true) := by decide
  obtain ⟨hbad, htrue⟩ := codes r.capture
  rw [← hbad, ← htrue, Bool.eq_iff_iff]
  cases k <;> simp [moveFieldFails, moveKindOfCode_eq_some.1 h, MoveKind.code]

/-- The value is judged by the kind (R2). -/
theorem moveFieldFails_value (r : RawMove) (k : MoveKind) (h : moveKindOfCode r.kind = some k) :
    moveFieldFails r .value = !k.admits r.value := by
  have hzero : r.value = 0#32 ↔ r.value.toNat = 0 := by bv_omega
  have hdistance : Config.distanceLimit = 16777215 := rfl
  have hdwell : Config.dwellLimit = 65535 := rfl
  rw [Bool.eq_iff_iff]
  cases k <;> simp [moveFieldFails, moveKindOfCode_eq_some.1 h, MoveKind.code, MoveKind.admits, hzero] <;> omega

/-- The auxiliary value fails where it is given to no homing move with capture (R4). -/
theorem moveFieldFails_aux (r : RawMove) (k : MoveKind) (c : Bool) (h : moveKindOfCode r.kind = some k)
    (hc : captureOfCode r.capture = some c) :
    moveFieldFails r .aux = decide (r.aux ≠ 0#32 ∧ ¬(k = .home ∧ c = true)) := by
  have hcapture : r.capture = 1#2 ↔ c = true := by rw [← captureOfCode_eq_some_true, hc, Option.some.injEq]
  have hhome : r.kind = 5#4 ↔ k = .home := by
    rw [← Option.some_inj (a := k), ← h, moveKindOfCode_eq_some, MoveKind.code]
  simp only [moveFieldFails, hcapture, hhome]

/-- The fields of a record in the order R6 checks them. -/
def moveFields : List FieldCode := [.kind, .profile, .start, .pair, .direction, .capture, .value, .aux]

/-- A record none of whose fields fails is the move it spells, and the first field that fails is the answer of any other (R6). -/
theorem checkMove_of_find? (r : RawMove) :
    match moveFields.find? (moveFieldFails r) with
    | some f => checkMove r = .error f
    | none => ∃ m, checkMove r = .ok m ∧ moveKindOfCode r.kind = some m.kind ∧ m.profile.val = r.profile.toNat ∧
        startOfCode r.start = some m.start ∧ directionOfCode r.direction = some m.direction ∧
        captureOfCode r.capture = some m.capture ∧ m.pair = r.pair ∧ m.tag = r.tag ∧ m.value = r.value ∧ m.aux = r.aux := by
  have fkind := moveFieldFails_kind r
  have fprofile := moveFieldFails_profile r
  have fstart := moveFieldFails_start r
  unfold moveFields checkMove
  simp only [List.find?_cons, List.find?_nil, fkind, fprofile, fstart]
  cases hk : moveKindOfCode r.kind with
  | none => rfl
  | some k =>
  simp only [moveFieldFails_direction r k hk, moveFieldFails_capture r k hk, moveFieldFails_value r k hk, Option.isNone_some]
  by_cases hp : r.profile.toNat < 8
  case neg => simp [hp]
  simp only [hp, decide_true, Bool.not_true, dite_true]
  cases hs : startOfCode r.start with
  | none => rfl
  | some st =>
  simp only [moveFieldFails_pair r st hs, Option.isNone_some]
  cases st.admitsPair r.pair with
  | false => rfl
  | true =>
  simp only [Bool.not_true, if_true]
  cases directionOfCode r.direction with
  | none => rfl
  | some d =>
  simp only [Option.isNone_some, Bool.false_or, Option.some_beq_some]
  cases k.fixedDirection && d == .minus with
  | true => rfl
  | false =>
  cases hc : captureOfCode r.capture with
  | none => rfl
  | some c =>
  simp only [moveFieldFails_aux r k c hk hc, Option.isNone_some, Bool.false_or, Option.some_beq_some, beq_true]
  cases c && k != .home with
  | true => rfl
  | false =>
  cases k.admits r.value with
  | false => rfl
  | true =>
  by_cases haux : r.aux ≠ 0#32 ∧ ¬(k = .home ∧ c = true)
  · simp [haux]
  · simp only [haux, decide_false]
    exact ⟨_, rfl, rfl, rfl, rfl, rfl, rfl, rfl, rfl, rfl, rfl⟩

/-- Settles O13: the codes of 12.3 and 12.7 by evaluation, and R6's order by following `checkMove` through its eight checks. -/
theorem moveFieldsAreCheckedInOrder : Obligations.MoveFieldsAreCheckedInOrder :=
  ⟨rfl, rfl, rfl, rfl, rfl, checkMove_of_find?⟩

/-! ### QUEUE MOVES (R9 to R12) -/

theorem axisOfSelector_selector (x : Axis) : axisOfSelector x.selector = some x := by cases x <;> rfl

/-- A selector that names neither axis alone is no axis's (R193). -/
theorem axisOfSelector_of_namesNoAxis {sel : Byte} (h : namesNoAxis sel) : axisOfSelector sel = none := by
  rw [axisOfSelector, if_neg h.1, if_neg h.2]

/-- Records that pass stand before the first that fails: its place is counted past theirs (R10). -/
theorem checkMoves_of_first_failure (n : Nat) (pre post : List RawMove) (r : RawMove) (f : FieldCode)
    (hpre : ∀ p ∈ pre, ∃ m, checkMove p = .ok m) (hr : checkMove r = .error f) :
    checkMoves n (pre ++ r :: post) = .error (n + pre.length, f) := by
  induction pre generalizing n with
  | nil => simp [checkMoves, hr]
  | cons p pre ih =>
    obtain ⟨m, hm⟩ := hpre p List.mem_cons_self
    have hrest := ih (n + 1) fun q hq => hpre q (List.mem_cons_of_mem p hq)
    simp only [List.cons_append, checkMoves, hm, hrest, List.length_cons, Nat.add_assoc, Nat.add_comm 1]

/-- Records that all pass are their moves, in frame order (R12). -/
theorem checkMoves_of_forall₂ (n : Nat) {moves : List RawMove} {ms : List Move}
    (h : List.Forall₂ (fun r m => checkMove r = .ok m) moves ms) : checkMoves n moves = .ok ms := by
  induction h generalizing n with
  | nil => rfl
  | cons hm _ ih => simp only [checkMoves, hm, ih]

/-- A selector that fails refuses the request before any record is examined (R10). -/
theorem queueMovesOwner_of_no_axis {sel : Byte} (moves : List RawMove) (s : State) (h : axisOfSelector sel = none) :
    queueMovesOwner sel moves s = ⟨.invalid, queueReply 0 .axis 0, s⟩ := by
  simp only [queueMovesOwner, h]

/-- The first record that fails refuses the request (R10). -/
theorem queueMovesOwner_of_error {sel : Byte} {x : Axis} {moves : List RawMove} {i : Nat} {f : FieldCode} (s : State)
    (hx : axisOfSelector sel = some x) (h : checkMoves 1 moves = .error (i, f)) :
    queueMovesOwner sel moves s = ⟨.invalid, queueReply i f (s.axis x).queue.length, s⟩ := by
  simp only [queueMovesOwner, hx, h]

/-- Records that all pass are judged by the room alone (R11, R12). -/
theorem queueMovesOwner_of_ok {sel : Byte} {x : Axis} {moves : List RawMove} {ms : List Move} (s : State)
    (hx : axisOfSelector sel = some x) (h : checkMoves 1 moves = .ok ms) :
    queueMovesOwner sel moves s =
      if 32 < (s.axis x).queue.length + ms.length then ⟨.full, queueReply 0 .none (s.axis x).queue.length, s⟩
      else ⟨.ok, queueReply 0 .none ((s.axis x).queue.length + ms.length), s.setQueue x ((s.axis x).queue ++ ms)⟩ := by
  simp only [queueMovesOwner, hx, h]
  rfl

/-- A QUEUE MOVES of 1 to 4 records that the link takes gets its owner's answer, on the part as the owner leaves it. -/
theorem exec_queueMoves_of_owner {s t : State} {sel : Byte} {moves : List RawMove} (filler : List Byte) {status : Status}
    {reply : List Byte} (hready : s.linkReady = true) (hcount : 1 ≤ moves.length ∧ moves.length ≤ 4)
    (howner : queueMovesOwner sel moves s = ⟨status, reply, t⟩) (hlink : t.link = s.link) :
    exec (.queueMoves sel moves filler) s = .next (t.answered (.queueMoves sel moves filler) status reply) := by
  have hexec : exec (.queueMoves sel moves filler) s =
      .next (s.takeRequest .queueMoves (sel :: moves.flatMap moveBytes) filler (queueMovesOwner sel moves)) := if_pos hcount
  rw [hexec, takeRequest_ready s _ _ _ _ hready, howner, answered_of_payload t _ _ _ _ _ rfl, hlink]
  rfl

/-- Settles O18: each clause is the owner's answer in its case, by the selector, by the first failing record, or by the room. -/
theorem queueMovesIsAllOrNone : Obligations.QueueMovesIsAllOrNone := by
  intro s moves filler hready hmin hmax
  refine ⟨fun sel hsel => ?_, fun x => ⟨fun pre r post f hmoves hpre hr => ?_, fun ms hms => ?_⟩⟩
  · exact exec_queueMoves_of_owner filler hready ⟨hmin, hmax⟩
      (queueMovesOwner_of_no_axis moves s (axisOfSelector_of_namesNoAxis hsel)) rfl
  · have hcheck : checkMoves 1 moves = .error (pre.length + 1, f) := by
      rw [hmoves, checkMoves_of_first_failure 1 pre post r f hpre hr, Nat.add_comm]
    exact exec_queueMoves_of_owner filler hready ⟨hmin, hmax⟩
      (queueMovesOwner_of_error s (axisOfSelector_selector x) hcheck) rfl
  · have howner := queueMovesOwner_of_ok s (axisOfSelector_selector x) (checkMoves_of_forall₂ 1 hms)
    rw [← hms.length_eq] at howner
    split <;> rename_i hroom
    · rw [if_pos hroom] at howner
      exact exec_queueMoves_of_owner filler hready ⟨hmin, hmax⟩ howner rfl
    · rw [if_neg hroom] at howner
      exact exec_queueMoves_of_owner filler hready ⟨hmin, hmax⟩ howner (setQueue_link s x _)

end Sys2Proof.Machine
end

section
/-! SUPPORT. Profiles and the rate law (chapter 2): READ PROFILE, and RETUNE of a current move. -/

namespace Sys2Proof.Machine

/-! ### A request whose owner's answer is known -/

/-- A request that the link takes gets its owner's answer, on the part as the owner leaves it. -/
theorem takeRequest_of_owner {s t : State} (i : Instr) {kind : RequestKind} {payload : List Byte} {owner : State → Answer}
    {status : Status} {reply : List Byte} (hready : s.linkReady = true) (hpayload : payloadOfRequest i = some (kind, payload))
    (howner : owner s = ⟨status, reply, t⟩) (hlink : t.link = s.link) :
    s.takeRequest kind payload (fillerOfRequest i) owner = t.answered i status reply := by
  rw [takeRequest_ready s _ _ _ _ hready, howner, answered_of_payload t _ _ _ _ _ hpayload, hlink]

/-- After a request the link is ready for the next one, where its owner left the supply and the outstanding reports. -/
theorem linkReady_of_replied {s t : State} {bytes : List Byte} {r : Reply} (hready : s.linkReady = true) (hpower : t.power = s.power)
    (ha : t.a.reports = s.a.reports) (hb : t.b.reports = s.b.reports) :
    (t.withLink (s.link.replied bytes r)).linkReady = true := by
  simp only [linkReady_iff, linkTakes_iff, reportsTaken_iff] at hready
  obtain ⟨⟨hrunning, -⟩, hreportsA, hreportsB⟩ := hready
  simp [linkReady_iff, linkTakes_iff, reportsTaken_iff, hpower, ha, hb, hrunning, hreportsA, hreportsB]

/-! ### READ PROFILE (R22, R23) -/

theorem styleOfCode_eq_some {b : Byte} {st : Style} : styleOfCode b = some st ↔ b = st.code := by
  cases st <;> revert b <;> decide

/-- A profile that passes R22's checks has the index's number and is carried by the very bytes that wrote it. -/
theorem raw_of_checkProfile {index : Byte} {r : RawProfile} {i : Fin 8} {p : Profile} (h : checkProfile index r = .ok (i, p)) :
    i.val = index.toNat ∧ p.raw = r := by
  unfold checkProfile at h
  split_ifs at h with hindex
  cases hlimit : styleOfCode r.limitStyle with
  | none => simp [hlimit] at h
  | some limitStyle =>
  cases hhome : styleOfCode r.homeStyle with
  | none => simp [hlimit, hhome] at h
  | some homeStyle =>
  simp only [hlimit, hhome, Except.ok.injEq, Prod.mk.injEq] at h
  obtain ⟨rfl, rfl⟩ := h
  refine ⟨rfl, ?_⟩
  simp only [Profile.raw, BitVec.ofNat_toNat, BitVec.setWidth_eq, ← styleOfCode_eq_some.1 hlimit, ← styleOfCode_eq_some.1 hhome]

/-- A WRITE PROFILE that its owner answers with OK replaced the indexed entry by the profile that its bytes spell (R22). -/
theorem writeProfileOwner_ok {index : Byte} {r : RawProfile} {s : State} (h : (writeProfileOwner index r s).status = .ok) :
    ∃ (i : Fin 8) (p : Profile), i.val = index.toNat ∧ p.raw = r ∧ (writeProfileOwner index r s).state = s.setProfile i p := by
  cases hcheck : checkProfile index r with
  | error f => simp [writeProfileOwner, hcheck] at h
  | ok ip =>
    obtain ⟨hi, hraw⟩ := raw_of_checkProfile hcheck
    exact ⟨ip.1, ip.2, hi, hraw, by simp only [writeProfileOwner, hcheck]⟩

/-- A profile that was just set is the table's entry. -/
theorem setProfile_profiles_same (s : State) (i : Fin 8) (p : Profile) : (s.setProfile i p).profiles[i] = p := by
  simp [State.setProfile]

/-- READ PROFILE of an entry (R23). -/
theorem exec_readProfile_entry {s : State} {index : Byte} {i : Fin 8} (filler : List Byte) (hready : s.linkReady = true)
    (hi : i.val = index.toNat) :
    exec (.readProfile index filler) s = .next (s.answered (.readProfile index filler) .ok
      ([0#8, index] ++ profileBytes (s.profiles[i]).raw ++
        bytes3 (topLevel (s.profiles[i]).base (s.profiles[i]).cruise (s.profiles[i]).ramp))) := by
  obtain ⟨n, hn⟩ := i
  obtain rfl : n = index.toNat := hi
  exact congrArg _ (takeRequest_of_owner (.readProfile index filler) hready rfl (dif_pos hn) rfl)

/-- READ PROFILE of a number that no entry has (R23). -/
theorem exec_readProfile_no_entry {s : State} {index : Byte} (filler : List Byte) (hready : s.linkReady = true)
    (hindex : 7 < index.toNat) :
    exec (.readProfile index filler) s =
      .next (s.answered (.readProfile index filler) .invalid ([0x10#8, index] ++ List.replicate 17 0#8)) :=
  congrArg _ (takeRequest_of_owner (.readProfile index filler) hready rfl (dif_neg (Nat.not_lt.2 hindex)) rfl)

/-- What a WRITE PROFILE that got OK leaves: a link ready for the next request, and at the index the profile written. -/
theorem exec_writeProfile_ok {s t : State} {index : Byte} {r : RawProfile} {filler : List Byte} (hready : s.linkReady = true)
    (hexec : exec (.writeProfile index r filler) s = .next t) (hok : t.link.slot.status = .ok) :
    t.linkReady = true ∧ ∃ i : Fin 8, i.val = index.toNat ∧ (t.profiles[i]).raw = r := by
  have htaken : s.takeRequest .writeProfile (index :: profileBytes r) filler (writeProfileOwner index r) = t :=
    Host.Outcome.next.inj hexec
  rw [takeRequest_ready s _ _ _ _ hready] at htaken
  subst htaken
  obtain ⟨i, p, hi, hraw, hstate⟩ := writeProfileOwner_ok hok
  rw [hstate]
  refine ⟨linkReady_of_replied hready rfl rfl rfl, i, hi, ?_⟩
  rw [withLink_profiles, setProfile_profiles_same, hraw]

/-- Settles O16: the owner's two answers, and the read-back as a READ PROFILE of the entry that the write left. -/
theorem readProfileReadsBack : Obligations.ReadProfileReadsBack := by
  intro s index filler hready
  refine ⟨exec_readProfile_no_entry filler hready, fun i => exec_readProfile_entry filler hready, fun r t hexec hok => ?_⟩
  obtain ⟨hnext, i, hi, hraw⟩ := exec_writeProfile_ok hready hexec hok
  refine ⟨topLevel (t.profiles[i]).base (t.profiles[i]).cruise (t.profiles[i]).ramp, fun filler' => ?_⟩
  rw [exec_readProfile_entry filler' hnext hi, hraw]

/-! ### RETUNE (R35 to R37) -/

theorem Phase.retunable_iff {ph : Phase} : ph.retunable = true ↔ ph = .accel ∨ ph = .cruise ∨ ph = .slowing := by
  cases ph <;> decide

/-- The reply of RETUNE is its field code and then the axis's items (R35). -/
theorem retuneReply_eq (u : AxisUnit) (f : FieldCode) : u.retuneReply f = f.code :: retuneItems u := by
  unfold AxisUnit.retuneReply retuneItems
  cases u.slot <;> rfl

/-- The table of R37: the model makes the same two comparisons, and its rescaling is the interval that `retunedSlot` writes out. -/
theorem retuneRunning_eq (sl : Slot) (c : Nat) : sl.retuneRunning c = retunedSlot sl c := rfl

/-- RETUNE of an ARMED move changes its snapshot (R36). -/
theorem retuned_armed {u : AxisUnit} {sl : Slot} (rate : Nat) (hslot : u.slot = some sl) (hstate : u.state = .armed) :
    u.retuned rate = some (sl, sl.retuneArmed rate) := by
  simp only [AxisUnit.retuned, hslot, hstate]

/-- RETUNE of a RUNNING move acts in ACCEL, CRUISE and SLOWING (R37). -/
theorem retuned_running {u : AxisUnit} {sl : Slot} (rate : Nat) (hslot : u.slot = some sl) (hstate : u.state = .running)
    (hphase : sl.phase = .accel ∨ sl.phase = .cruise ∨ sl.phase = .slowing) :
    u.retuned rate = some (sl, retunedSlot sl rate) := by
  simp only [AxisUnit.retuned, hslot, hstate, Phase.retunable_iff.2 hphase, if_true, retuneRunning_eq]

/-- A RETUNE that passes R35's checks replaces the slot and reports the axis as it then stands. -/
theorem retuneOwner_ok {s : State} {x : Axis} {rate : Word} {sl sl' : Slot} (hlimit : rate.toNat ≤ 200000)
    (hbase : sl.snap.base ≤ rate.toNat) (hzero : rate ≠ 0#32) (hretuned : (s.axis x).retuned rate.toNat = some (sl, sl')) :
    retuneOwner x.selector rate s =
      ⟨.ok, 0#8 :: retuneItems ((s.setSlot x (some sl')).axis x), s.setSlot x (some sl')⟩ := by
  have hrange : ¬(rate.toNat = 0 ∨ Config.rateLimit < rate.toNat) := by
    have hlimit' : rate.toNat ≤ Config.rateLimit := hlimit
    bv_omega
  simp only [retuneOwner, axisOfSelector_selector, if_neg hrange, hretuned, if_neg (Nat.not_lt.2 hbase), retuneReply_eq,
    FieldCode.code]

/-- Settles O27: in each of the two states RETUNE acts in, the model's changed slot is the one stated. -/
theorem retuneChangesTheSnapshot : Obligations.RetuneChangesTheSnapshot := by
  intro s x rate sl sl' filler hready hslot hlimit hbase hzero hcase t ht
  have hretuned : (s.axis x).retuned rate.toNat = some (sl, sl') := by
    obtain ⟨hstate, rfl⟩ | ⟨hstate, hphase, rfl⟩ := hcase
    · exact retuned_armed _ hslot hstate
    · exact retuned_running _ hslot hstate hphase
  subst ht
  exact congrArg _ (takeRequest_of_owner (.retune x.selector rate filler) hready rfl
    (retuneOwner_ok hlimit hbase hzero hretuned) (setSlot_link s x _))

end Sys2Proof.Machine
end

section
/-! SUPPORT. Starts (chapter 3): which of R50's five checks decides a start, and what the start then leaves. -/

namespace Sys2Proof.Machine

/-! ### The obligations' terms and the model's -/

/-- The level of a limit line, as the obligations name it, is the one the engine examines. -/
theorem limit_eq_limitLevel (l : Lines) (d : Direction) : l.limit d = limitLevel l d := by cases d <;> rfl

/-- The model's capture in two updates of one axis is the obligations' in one (R62). -/
theorem captureOnce_eq_capturedOnce (s : State) (x : Axis) (sl : Slot) : s.captureOnce x sl = capturedOnce s x sl := by
  simp only [State.captureOnce, capturedOnce, State.capture, State.setCounter, State.setSlot, onAxis_onAxis,
    Bool.and_eq_true, Option.isNone_iff_eq_none]

/-- At level 0 the rate in force is the base rate within the ceiling (R25, R26). -/
theorem Snapshot.rate_zero (p : Snapshot) : p.rate 0 = min p.base p.ceiling := by
  simp only [Snapshot.rate, Nat.mul_zero, Nat.add_zero]

/-- The first interval of a move is that of level 0 (R50, step 5; R54). -/
theorem Slot.startRamp_eq (sl : Slot) : sl.startRamp =
    { sl with
      phase := if 0 < sl.snap.top then .accel else .cruise
      level := 0
      armTimer := none
      interval := some (intervalOf (min sl.snap.base sl.snap.ceiling)) } := by
  simp only [Slot.startRamp, Slot.beginInterval, Slot.rate, Snapshot.rate_zero]

/-! ### The check that decides (R50): the first that applies -/

theorem startCheck_dwell {sl : Slot} (lines : Lines) (hdwell : sl.move.kind = .dwell) :
    startCheck lines sl = .dwell := if_pos hdwell

theorem startCheck_zeroDistance {sl : Slot} (lines : Lines) (hdwell : sl.move.kind ≠ .dwell)
    (hzero : sl.distance = some 0) : startCheck lines sl = .zeroDistance := by
  rw [startCheck, if_neg hdwell, if_pos hzero]

theorem startCheck_homeFound {lines : Lines} {sl : Slot} (hdist : sl.distance ≠ some 0) (hkind : sl.move.kind = .home)
    (hhome : lines.home = true) : startCheck lines sl = .homeFound := by
  have hdwell : sl.move.kind ≠ .dwell := by simp [hkind]
  rw [startCheck, if_neg hdwell, if_neg hdist, if_pos ⟨hkind, hhome⟩]

/-- Past the first three checks, the limit line on the move's own side decides. -/
theorem startCheck_directed {lines : Lines} {sl : Slot} {d : Direction} (hdwell : sl.move.kind ≠ .dwell)
    (hdist : sl.distance ≠ some 0) (hhome : ¬(sl.move.kind = .home ∧ lines.home = true)) (hdir : sl.direction = some d) :
    startCheck lines sl = if limitLevel lines d = true then .limitActive else .run := by
  simp only [startCheck, if_neg hdwell, if_neg hdist, if_neg hhome, hdir, limit_eq_limitLevel]

/-! ### What the start leaves, by the check that decides it -/

section
variable {s : State} {x : Axis} {sl : Slot} (hslot : (s.axis x).slot = some sl)
include hslot

theorem startMove_of_dwell (hcheck : startCheck (s.axis x).lines sl = .dwell) :
    s.startMove x = s.onAxis x (fun u => { u with state := .running, slot := some sl.startDwell }) := by
  simp only [State.startMove, hslot, hcheck, State.setAxisState, State.setSlot, onAxis_onAxis]

theorem startMove_of_zeroDistance (hcheck : startCheck (s.axis x).lines sl = .zeroDistance) :
    s.startMove x = s.endMove x .done .none .proceed := by
  simp only [State.startMove, hslot, hcheck]

theorem startMove_of_homeFound (hcheck : startCheck (s.axis x).lines sl = .homeFound) :
    s.startMove x = (capturedOnce s x sl).endMove x .done .homeFound .proceed := by
  simp only [State.startMove, hslot, hcheck, captureOnce_eq_capturedOnce]

theorem startMove_of_limitActive (hcheck : startCheck (s.axis x).lines sl = .limitActive) :
    s.startMove x = s.endMove x .refused .limitActive .halt := by
  simp only [State.startMove, hslot, hcheck]

/-- A move that runs sets the last direction, which the direction output follows (R56). -/
theorem startMove_of_run {d : Direction} (hcheck : startCheck (s.axis x).lines sl = .run) (hdir : sl.direction = some d) :
    s.startMove x = s.onAxis x (fun u => { u with state := .running, lastDirection := d, slot := some sl.startRamp }) := by
  simp only [State.startMove, hslot, hcheck, hdir, Option.getD_some]

end

/-- Settles O46: in each clause the hypotheses pick the check of R50 that decides, and that check's outcome is the one stated. -/
theorem startChecksDecideTheStart : Obligations.StartChecksDecideTheStart := by
  intro s x sl hslot
  refine ⟨fun hdwell => startMove_of_dwell hslot (startCheck_dwell _ hdwell), fun hdwell =>
    ⟨fun hzero => startMove_of_zeroDistance hslot (startCheck_zeroDistance _ hdwell hzero), fun hdist =>
      ⟨fun hkind hhome => startMove_of_homeFound hslot (startCheck_homeFound hdist hkind hhome),
        fun hnotHome d hdir => ?_⟩⟩⟩
  have hcheck := startCheck_directed hdwell hdist hnotHome hdir
  constructor
  · intro hlimit
    exact startMove_of_limitActive hslot (hcheck.trans (if_pos hlimit))
  · intro hclear
    rw [startMove_of_run hslot (hcheck.trans (if_neg (Bool.eq_false_iff.1 hclear))) hdir, Slot.startRamp_eq]

end Sys2Proof.Machine
end

section
/-! SUPPORT. Pairs (chapter 3): when a start would be refused for its limit, and the three decisions of a second arrival. -/

namespace Sys2Proof.Machine

/-! ### A start that its limit refuses (R50, step 4) -/

/-- The limit refuses a start exactly where no earlier check applies and the move has a direction whose limit line is asserted. -/
theorem startCheck_eq_limitActive_iff (lines : Lines) (sl : Slot) :
    startCheck lines sl = .limitActive ↔
      sl.move.kind ≠ .dwell ∧ sl.distance ≠ some 0 ∧ ¬(sl.move.kind = .home ∧ lines.home = true) ∧
        ∃ d ∈ sl.direction, limitLevel lines d = true := by
  by_cases hdwell : sl.move.kind = .dwell
  · simp [startCheck_dwell lines hdwell, hdwell]
  by_cases hdist : sl.distance = some 0
  · simp [startCheck_zeroDistance lines hdwell hdist, hdist]
  by_cases hhome : sl.move.kind = .home ∧ lines.home = true
  · simp [startCheck_homeFound hdist hhome.1 hhome.2, hhome]
  cases hdir : sl.direction with
  | none =>
    have hrun : startCheck lines sl = .run := by
      simp only [startCheck, if_neg hdwell, if_neg hdist, if_neg hhome, hdir]
    simp [hrun]
  | some d =>
    rw [startCheck_directed hdwell hdist hhome hdir]
    simp [hdwell, hdist, hhome]

/-! ### What the second arrival leaves (R75 to R78) -/

/-- The cause on one side of a pair that a limit refuses: its own limit, or the other side's (R77). -/
def pairCause (lines : Lines) (sl : Slot) : Cause :=
  if startCheck lines sl = .limitActive then .limitActive else .pairBroken

section
variable (s : State) {slA slB : Slot}

theorem decidePair_of_mismatch (hpair : slA.move.pair ≠ slB.move.pair) :
    s.decidePair slA slB = (s.endMove .A .refused .pairMismatch .halt).endMove .B .refused .pairMismatch .halt :=
  if_pos hpair

/-- A limit on either side refuses the matched pair whole, each side for its own cause. -/
theorem decidePair_of_limited (hpair : slA.move.pair = slB.move.pair)
    (hlimit : startCheck s.a.lines slA = .limitActive ∨ startCheck s.b.lines slB = .limitActive) :
    s.decidePair slA slB =
      (s.endMove .A .refused (pairCause s.a.lines slA) .halt).endMove .B .refused (pairCause s.b.lines slB) .halt :=
  (if_neg (not_not.2 hpair)).trans (if_pos hlimit)

theorem decidePair_of_clear (hpair : slA.move.pair = slB.move.pair)
    (hA : startCheck s.a.lines slA ≠ .limitActive) (hB : startCheck s.b.lines slB ≠ .limitActive) :
    s.decidePair slA slB = (s.startMove .A).startMove .B :=
  (if_neg (not_not.2 hpair)).trans (if_neg (not_or.2 ⟨hA, hB⟩))

end

/-- Settles O49: the stated test of a side is the engine's limit check on it, and each clause is then one of the three decisions. -/
theorem secondArrivalDecidesThePair : Obligations.SecondArrivalDecidesThePair := by
  intro s slA slB limited _ _ hlimited
  have limited_iff (u : AxisUnit) (sl : Slot) : limited u sl = true ↔ startCheck u.lines sl = .limitActive := by
    rw [hlimited, decide_eq_true_iff, startCheck_eq_limitActive_iff]
  have clear_iff (u : AxisUnit) (sl : Slot) : limited u sl = false ↔ startCheck u.lines sl ≠ .limitActive := by
    rw [← Bool.not_eq_true, limited_iff]
  simp only [limited_iff, clear_iff]
  refine ⟨decidePair_of_mismatch s, fun hpair => ⟨fun hA hB => ?_, fun hA hB => ?_, fun hA hB => ?_,
    decidePair_of_clear s hpair⟩⟩
  · rw [decidePair_of_limited s hpair (.inl hA), pairCause, pairCause, if_pos hA, if_neg hB]
  · rw [decidePair_of_limited s hpair (.inr hB), pairCause, pairCause, if_neg hA, if_pos hB]
  · rw [decidePair_of_limited s hpair (.inl hA), pairCause, pairCause, if_pos hA, if_pos hB]

end Sys2Proof.Machine
end

section
/-! SUPPORT. Stops (chapter 3): STOP AXIS's three checks, and the stop of the named axes, A's first. -/

namespace Sys2Proof.Machine

/-! ### The codes that STOP AXIS refuses (12.7, R193) -/

theorem axesOfSelector_eq_none_iff {sel : Byte} : axesOfSelector sel = none ↔ namesNoAxes sel := by
  simp only [axesOfSelector, namesNoAxes, ite_eq_iff, reduceCtorEq, and_false, false_or, and_true]

/-- A selector that names an axis says of each axis whether it names it. -/
theorem exists_axesOfSelector {sel : Byte} (h : ¬namesNoAxes sel) : ∃ named, axesOfSelector sel = some named :=
  Option.ne_none_iff_exists'.1 (mt axesOfSelector_eq_none_iff.1 h)

theorem styleOfCode_eq_none_iff {b : Byte} : styleOfCode b = none ↔ 1 < b.toNat := by
  simp only [styleOfCode, ite_eq_iff, reduceCtorEq, and_false, false_or, and_true]
  bv_omega

theorem exists_styleOfCode {b : Byte} (h : b.toNat ≤ 1) : ∃ st, styleOfCode b = some st :=
  Option.ne_none_iff_exists'.1 (mt styleOfCode_eq_none_iff.1 (Nat.not_lt.2 h))

theorem afterOfCode_eq_none_iff {b : Byte} : afterOfCode b = none ↔ 2 < b.toNat := by
  simp only [afterOfCode, ite_eq_iff, reduceCtorEq, and_false, false_or, and_true]
  bv_omega

/-! ### The stop of the named axes (R88) -/

/-- The stop on axis A and then on axis B, each where it is named. -/
def State.stopNamed (s : State) (named : Bool × Bool) (st : Style) (aa : AfterAction) : State :=
  let t := if named.1 then s.hostStop .A st aa else s
  if named.2 then t.hostStop .B st aa else t

/-- The stop of the named axes keeps what the stop of one axis keeps. -/
theorem stopNamed_kept (s : State) (named : Bool × Bool) (st : Style) (aa : AfterAction) : s.Kept (s.stopNamed named st aa) := by
  obtain ⟨na, nb⟩ := named
  cases na <;> cases nb
  · exact .refl s
  · exact hostStop_kept s .B st aa
  · exact hostStop_kept s .A st aa
  · exact (hostStop_kept s .A st aa).trans (hostStop_kept _ .B st aa)

/-! ### STOP AXIS's answers, by the first check that fails -/

section
variable {s : State} {sel style after : Byte}

theorem stopAxisOwner_of_no_axes (hsel : namesNoAxes sel) :
    stopAxisOwner sel style after s = ⟨.invalid, s.statesReply .axis, s⟩ := by
  simp only [stopAxisOwner, axesOfSelector_eq_none_iff.2 hsel]

theorem stopAxisOwner_of_no_style {named : Bool × Bool} (hsel : axesOfSelector sel = some named) (hstyle : 1 < style.toNat) :
    stopAxisOwner sel style after s = ⟨.invalid, s.statesReply .style, s⟩ := by
  simp only [stopAxisOwner, hsel, styleOfCode_eq_none_iff.2 hstyle]

theorem stopAxisOwner_of_no_after {named : Bool × Bool} {st : Style} (hsel : axesOfSelector sel = some named)
    (hstyle : styleOfCode style = some st) (hafter : 2 < after.toNat) :
    stopAxisOwner sel style after s = ⟨.invalid, s.statesReply .afterAction, s⟩ := by
  simp only [stopAxisOwner, hsel, hstyle, afterOfCode_eq_none_iff.2 hafter]

/-- A STOP AXIS that passes its checks stops the named axes and reports both as they then stand. -/
theorem stopAxisOwner_ok {named : Bool × Bool} {st : Style} {aa : AfterAction} (hsel : axesOfSelector sel = some named)
    (hstyle : styleOfCode style = some st) (hafter : afterOfCode after = some aa) :
    stopAxisOwner sel style after s =
      ⟨.ok, (s.stopNamed named st aa).statesReply .none, s.stopNamed named st aa⟩ := by
  simp only [stopAxisOwner, hsel, hstyle, hafter, State.stopNamed]

/-- A STOP AXIS that the link takes gets its owner's answer, on the part as the owner leaves it. -/
theorem exec_stopAxis_of_owner {t : State} {status : Status} {reply : List Byte} (filler : List Byte) (hready : s.linkReady = true)
    (howner : stopAxisOwner sel style after s = ⟨status, reply, t⟩) (hlink : t.link = s.link) :
    exec (.stopAxis sel style after filler) s = .next (t.answered (.stopAxis sel style after filler) status reply) :=
  congrArg _ (takeRequest_of_owner (.stopAxis sel style after filler) hready rfl howner hlink)

/-- STOP AXIS of the named axes, which leaves the link to the reply alone (R88). -/
theorem exec_stopAxis_ok {named : Bool × Bool} {st : Style} {aa : AfterAction} (filler : List Byte) (hready : s.linkReady = true)
    (hsel : axesOfSelector sel = some named) (hstyle : styleOfCode style = some st) (hafter : afterOfCode after = some aa) :
    exec (.stopAxis sel style after filler) s =
      .next ((s.stopNamed named st aa).answered (.stopAxis sel style after filler) .ok
        ((s.stopNamed named st aa).statesReply .none)) :=
  exec_stopAxis_of_owner filler hready (stopAxisOwner_ok hsel hstyle hafter) (stopNamed_kept s named st aa).link

end

/-- Settles O24: each refusal is the owner's answer at the first check that fails, and each of the three selectors that pass names the
axes whose stops the statement writes out. -/
theorem stopAxisStopsTheNamedAxes : Obligations.StopAxisStopsTheNamedAxes := by
  refine ⟨rfl, fun s style after filler hready => ⟨fun sel hsel => ?axis, fun sel hsel hstyle => ?style,
    fun sel hsel hstyle hafter => ?afterAction, fun st aa hstyle hafter sel t hnamed => ?stop⟩⟩
  case axis => exact exec_stopAxis_of_owner filler hready (stopAxisOwner_of_no_axes hsel) rfl
  case style =>
    obtain ⟨named, haxes⟩ := exists_axesOfSelector hsel
    exact exec_stopAxis_of_owner filler hready (stopAxisOwner_of_no_style haxes hstyle) rfl
  case afterAction =>
    obtain ⟨named, haxes⟩ := exists_axesOfSelector hsel
    obtain ⟨st, hst⟩ := exists_styleOfCode hstyle
    exact exec_stopAxis_of_owner filler hready (stopAxisOwner_of_no_after haxes hst hafter) rfl
  case stop =>
    obtain ⟨rfl, rfl⟩ | ⟨rfl, rfl⟩ | ⟨rfl, rfl⟩ := hnamed
    · exact exec_stopAxis_ok (named := (true, false)) filler hready rfl hstyle hafter
    · exact exec_stopAxis_ok (named := (false, true)) filler hready rfl hstyle hafter
    · exact exec_stopAxis_ok (named := (true, true)) filler hready rfl hstyle hafter

end Sys2Proof.Machine
end

section
/-! SUPPORT. Marks (chapter 6): the table as a list in ascending id, and the requests MARK ADD, MARK REMOVE and MARK LIST. -/

namespace Sys2Proof.Machine

/-! ### The mark table as a list (R112) -/

theorem findMark_eq_none_iff {id : Byte} {ms : List Mark} : findMark id ms = none ↔ ∀ m ∈ ms, m.id ≠ id := by
  simp [findMark]

theorem isSome_findMark_iff {id : Byte} {ms : List Mark} : (findMark id ms).isSome = true ↔ ∃ m ∈ ms, m.id = id := by
  simp [findMark]

/-- The first mark with an id is the one found. -/
theorem findMark_append_cons {pre post : List Mark} {m : Mark} (hpre : ∀ k ∈ pre, k.id ≠ m.id) :
    findMark m.id (pre ++ m :: post) = some m :=
  List.find?_eq_some_iff_append.2 ⟨beq_self_eq_true m.id, pre, post, rfl, fun k hk => by simpa using hpre k hk⟩

/-- Taking out an id takes out its one mark. -/
theorem filter_id_ne_append_cons {pre post : List Mark} {m : Mark} (hothers : ∀ k ∈ pre ++ post, k.id ≠ m.id) :
    (pre ++ m :: post).filter (fun k => k.id != m.id) = pre ++ post := by
  calc (pre ++ m :: post).filter (fun k => k.id != m.id)
      = (pre ++ post).filter (fun k => k.id != m.id) := by simp
    _ = pre ++ post := List.filter_eq_self.2 fun k hk => bne_iff_ne.2 (hothers k hk)

/-- The model's insertion is the library's, by strictly smaller id. -/
theorem insertMark_eq_orderedInsert (m : Mark) (ms : List Mark) :
    insertMark m ms = ms.orderedInsert (fun a b => a.id < b.id) m := by
  induction ms with
  | nil => rfl
  | cons h rest ih => rw [insertMark, List.orderedInsert_cons, ih]

/-- Insertion adds the mark and keeps the others. -/
theorem insertMark_perm (m : Mark) (ms : List Mark) : (insertMark m ms).Perm (m :: ms) := by
  rw [insertMark_eq_orderedInsert]
  exact List.perm_orderedInsert _ m ms

/-- A mark with an id of its own keeps the table in ascending id (R116). -/
theorem insertMark_marksAscend {m : Mark} {ms : List Mark} (hms : marksAscend ms) (hnew : ∀ k ∈ ms, k.id ≠ m.id) :
    marksAscend (insertMark m ms) := by
  induction ms with
  | nil => exact List.pairwise_singleton _ m
  | cons h rest ih =>
    obtain ⟨hfirst, hrest⟩ := List.pairwise_cons.1 hms
    obtain ⟨hne, hnewRest⟩ := List.forall_mem_cons.1 hnew
    rw [insertMark]
    split
    next hbefore =>
      have hall : ∀ k ∈ h :: rest, m.id < k.id :=
        List.forall_mem_cons.2 ⟨hbefore, fun k hk => BitVec.lt_trans hbefore (hfirst k hk)⟩
      exact List.pairwise_cons.2 ⟨hall, hms⟩
    next hnotBefore =>
      have hafter : h.id < m.id := BitVec.lt_of_le_ne (BitVec.not_lt.1 hnotBefore) hne
      have hall : ∀ k ∈ m :: rest, h.id < k.id := List.forall_mem_cons.2 ⟨hafter, hfirst⟩
      exact List.pairwise_cons.2
        ⟨fun k hk => hall k ((insertMark_perm m rest).mem_iff.1 hk), ih hrest hnewRest⟩

/-! ### MARK ADD (R114) -/

theorem senseOfCode_eq_none_iff {b : Byte} : senseOfCode b = none ↔ b = 0#8 ∨ 3 < b.toNat := by
  simp only [senseOfCode, ite_eq_iff, reduceCtorEq, and_false, false_or, and_true]
  bv_omega

section
variable {s : State} {id : Byte} {position : Word} {sense : Byte}

theorem markAddOwner_of_no_axis {sel : Byte} (hsel : axisOfSelector sel = none) :
    markAddOwner sel id position sense s = ⟨.invalid, [FieldCode.axis.code, 0#8], s⟩ := by
  simp only [markAddOwner, hsel]

theorem markAddOwner_of_zero_id (x : Axis) (hid : id = 0#8) :
    markAddOwner x.selector id position sense s = ⟨.invalid, [FieldCode.id.code, byteOf (s.axis x).marks.length], s⟩ := by
  simp only [markAddOwner, axisOfSelector_selector, if_pos hid]

theorem markAddOwner_of_no_sense (x : Axis) (hid : id ≠ 0#8) (hsense : senseOfCode sense = none) :
    markAddOwner x.selector id position sense s = ⟨.invalid, [FieldCode.sense.code, byteOf (s.axis x).marks.length], s⟩ := by
  simp only [markAddOwner, axisOfSelector_selector, if_neg hid, hsense]

section
variable {se : Sense} (x : Axis) (hid : id ≠ 0#8) (hsense : senseOfCode sense = some se)
include hid hsense

theorem markAddOwner_of_duplicate (hheld : ∃ m ∈ (s.axis x).marks, m.id = id) :
    markAddOwner x.selector id position sense s = ⟨.duplicate, [FieldCode.none.code, byteOf (s.axis x).marks.length], s⟩ := by
  simp only [markAddOwner, axisOfSelector_selector, if_neg hid, hsense, if_pos (isSome_findMark_iff.2 hheld)]

/-- Past the duplicate check, the room decides. -/
theorem markAddOwner_of_new (hnew : ∀ m ∈ (s.axis x).marks, m.id ≠ id) :
    markAddOwner x.selector id position sense s =
      if Config.markCapacity ≤ (s.axis x).marks.length then ⟨.full, [FieldCode.none.code, byteOf (s.axis x).marks.length], s⟩
      else ⟨.ok, [FieldCode.none.code, byteOf ((s.axis x).marks.length + 1)],
        s.setMarks x (insertMark ⟨id, position, se⟩ (s.axis x).marks)⟩ := by
  simp only [markAddOwner, axisOfSelector_selector, if_neg hid, hsense, findMark_eq_none_iff.2 hnew, Option.isSome_none, Bool.false_eq_true,
    if_false]

end

/-- A MARK ADD that the link takes gets its owner's answer, on the part as the owner leaves it. -/
theorem exec_markAdd_of_owner {t : State} {sel : Byte} {status : Status} {reply : List Byte} (filler : List Byte)
    (hready : s.linkReady = true) (howner : markAddOwner sel id position sense s = ⟨status, reply, t⟩) (hlink : t.link = s.link) :
    exec (.markAdd sel id position sense filler) s = .next (t.answered (.markAdd sel id position sense filler) status reply) :=
  congrArg _ (takeRequest_of_owner (.markAdd sel id position sense filler) hready rfl howner hlink)

end

/-- Settles O31: each clause is the owner's answer at the check that decides, and the mark that passes them all is inserted by its id. -/
theorem markAddJoinsTheTable : Obligations.MarkAddJoinsTheTable := by
  refine ⟨rfl, fun b hb => senseOfCode_eq_none_iff.2 (.inr hb), fun s id position sense filler hready =>
    ⟨fun sel hsel => ?axis, fun x c hc => ?onAxis⟩⟩
  case axis =>
    exact exec_markAdd_of_owner filler hready (markAddOwner_of_no_axis (axisOfSelector_of_namesNoAxis hsel)) rfl
  case onAxis =>
    subst hc
    refine ⟨fun hid => ?zeroId, fun hid hsense => ?noSense, fun se hid hsense => ⟨fun hheld => ?duplicate, fun hnew =>
      ⟨fun hfull => ?full, fun hroom => ⟨insertMark ⟨id, position, se⟩ (s.axis x).marks, insertMark_perm _ _,
        fun hascend => insertMark_marksAscend hascend hnew, ?joins⟩⟩⟩⟩
    case zeroId => exact exec_markAdd_of_owner filler hready (markAddOwner_of_zero_id x hid) rfl
    case noSense => exact exec_markAdd_of_owner filler hready (markAddOwner_of_no_sense x hid hsense) rfl
    case duplicate => exact exec_markAdd_of_owner filler hready (markAddOwner_of_duplicate x hid hsense hheld) rfl
    case full =>
      exact exec_markAdd_of_owner filler hready ((markAddOwner_of_new x hid hsense hnew).trans (if_pos hfull)) rfl
    case joins =>
      exact exec_markAdd_of_owner filler hready
        ((markAddOwner_of_new x hid hsense hnew).trans (if_neg (Nat.not_le.2 hroom))) (setMarks_link s x _)

/-! ### MARK REMOVE (R115) and MARK LIST (R116) -/

section
variable {s : State} {id : Byte}

theorem markRemoveOwner_of_no_axis {sel : Byte} (hsel : axisOfSelector sel = none) :
    markRemoveOwner sel id s = ⟨.invalid, markRemoveReply .axis 0 none, s⟩ := by
  simp only [markRemoveOwner, hsel]

theorem markRemoveOwner_of_zero_id (x : Axis) (hid : id = 0#8) :
    markRemoveOwner x.selector id s = ⟨.invalid, markRemoveReply .id (s.axis x).marks.length none, s⟩ := by
  simp only [markRemoveOwner, axisOfSelector_selector, if_pos hid]

theorem markRemoveOwner_of_absent (x : Axis) (hid : id ≠ 0#8) (habsent : ∀ m ∈ (s.axis x).marks, m.id ≠ id) :
    markRemoveOwner x.selector id s = ⟨.notFound, markRemoveReply .none (s.axis x).marks.length none, s⟩ := by
  simp only [markRemoveOwner, axisOfSelector_selector, if_neg hid, findMark_eq_none_iff.2 habsent]

/-- The held mark with the id leaves the table, and the reply reports it. -/
theorem markRemoveOwner_of_held {x : Axis} {pre post : List Mark} {m : Mark} (hid : m.id ≠ 0#8)
    (hmarks : (s.axis x).marks = pre ++ m :: post) (hothers : ∀ k ∈ pre ++ post, k.id ≠ m.id) :
    markRemoveOwner x.selector m.id s =
      ⟨.ok, markRemoveReply .none (pre ++ post).length (some m), s.setMarks x (pre ++ post)⟩ := by
  have hfound : findMark m.id (pre ++ m :: post) = some m :=
    findMark_append_cons fun k hk => hothers k (List.mem_append_left post hk)
  simp only [markRemoveOwner, axisOfSelector_selector, if_neg hid, hmarks, hfound, filter_id_ne_append_cons hothers]

/-- A MARK REMOVE that the link takes gets its owner's answer, on the part as the owner leaves it. -/
theorem exec_markRemove_of_owner {t : State} {sel : Byte} {status : Status} {reply : List Byte} (filler : List Byte)
    (hready : s.linkReady = true) (howner : markRemoveOwner sel id s = ⟨status, reply, t⟩) (hlink : t.link = s.link) :
    exec (.markRemove sel id filler) s = .next (t.answered (.markRemove sel id filler) status reply) :=
  congrArg _ (takeRequest_of_owner (.markRemove sel id filler) hready rfl howner hlink)

theorem markListOwner_of_no_axis {sel : Byte} (hsel : axisOfSelector sel = none) :
    markListOwner sel s = ⟨.invalid, [FieldCode.axis.code, 0#8], s⟩ := by
  simp only [markListOwner, hsel]

theorem markListOwner_selector (x : Axis) : markListOwner x.selector s =
    ⟨.ok, [FieldCode.none.code, byteOf (s.axis x).marks.length] ++ (s.axis x).marks.flatMap Mark.bytes, s⟩ := by
  simp only [markListOwner, axisOfSelector_selector]

/-- A MARK LIST that the link takes gets its owner's answer; it changes nothing (R116). -/
theorem exec_markList_of_owner {sel : Byte} {status : Status} {reply : List Byte} (filler : List Byte)
    (hready : s.linkReady = true) (howner : markListOwner sel s = ⟨status, reply, s⟩) :
    exec (.markList sel filler) s = .next (s.answered (.markList sel filler) status reply) :=
  congrArg _ (takeRequest_of_owner (.markList sel filler) hready rfl howner rfl)

end

/-- Settles O32: each clause is the owner's answer in its case, by the selector, by the id, or by the mark held with it. -/
theorem marksAreRemovedAndListed : Obligations.MarksAreRemovedAndListed := by
  refine fun s id filler hready => ⟨fun sel hsel => ?axis, fun x => ⟨?list, fun c hc => ?remove⟩⟩
  case axis =>
    have hno := axisOfSelector_of_namesNoAxis hsel
    exact ⟨exec_markRemove_of_owner filler hready (markRemoveOwner_of_no_axis hno) rfl,
      exec_markList_of_owner filler hready (markListOwner_of_no_axis hno)⟩
  case list => exact exec_markList_of_owner filler hready (markListOwner_selector x)
  case remove =>
    subst hc
    refine ⟨fun hid => ?zeroId, fun hid habsent => ?absent, fun pre m post hid hmarks hm hothers => ?held⟩
    case zeroId => exact exec_markRemove_of_owner filler hready (markRemoveOwner_of_zero_id x hid) rfl
    case absent => exact exec_markRemove_of_owner filler hready (markRemoveOwner_of_absent x hid habsent) rfl
    case held =>
      subst hm
      exact exec_markRemove_of_owner filler hready (markRemoveOwner_of_held hid hmarks hothers) (setMarks_link s x _)

end Sys2Proof.Machine
end

section
/-! SUPPORT. Stations (chapter 7): a presence as its three codes, the station reply, and the request STATION STORE. -/

namespace Sys2Proof.Machine

/-! ### Presences (R125, 12.7) -/

theorem presenceOfCode_eq_none_iff {b : Byte} : presenceOfCode b = none ↔ 2 < b.toNat := by
  simp only [presenceOfCode, ite_eq_iff, reduceCtorEq, and_false, false_or, and_true]
  bv_omega

theorem presenceOfCode_eq_some {b : Byte} {p : Presence} (h : presenceOfCode b = some p) :
    (b = 0#8 ∧ p = .absent) ∨ (b = 1#8 ∧ p = .present) ∨ (b = 2#8 ∧ p = .leave) := by
  unfold presenceOfCode at h
  split_ifs at h <;> simp_all

/-- A presence's code leaves the position that the presence stores. -/
theorem storedPosition_of_presence {b : Byte} {p : Presence} (h : presenceOfCode b = some p) (value : Word) (held : Option Word) :
    storedPosition b value held = p.store held value := by
  obtain ⟨rfl, rfl⟩ | ⟨rfl, rfl⟩ | ⟨rfl, rfl⟩ := presenceOfCode_eq_some h <;> rfl

/-- A value fails just where its presence does not admit it: it is not 0 and the presence is not PRESENT. -/
theorem valueFails_iff_admits_eq_false {b : Byte} {p : Presence} (h : presenceOfCode b = some p) (value : Word) :
    (b ≠ 1#8 ∧ value ≠ 0#32) ↔ p.admits value = false := by
  obtain ⟨rfl, rfl⟩ | ⟨rfl, rfl⟩ | ⟨rfl, rfl⟩ := presenceOfCode_eq_some h <;> simp [Presence.admits]

/-! ### The station table and its reply (R123, 12.5) -/

theorem stationOf_eq_none {n : Byte} (h : 31 < n.toNat) : stationOf n = none := dif_neg (by omega)

theorem stationOf_eq_some {n : Byte} {k : Fin 32} (h : k.val = n.toNat) : stationOf n = some k := by
  have hlt : n.toNat < 32 := h ▸ k.isLt
  rw [stationOf, dif_pos hlt, Option.some_inj]
  exact Fin.ext h.symm

theorem stationReply_eq (f : FieldCode) (n : Byte) (st : Station) : stationReply f n st = f.code :: stationItems n st := by
  obtain ⟨a, b⟩ := st
  cases a <;> cases b <;> rfl

/-! ### STATION STORE (R125) -/

/-- The fields of a STATION STORE after its number, in the order R125 checks them. -/
def storeFields : List FieldCode := [.presenceA, .valueA, .presenceB, .valueB]

section
variable {s : State} {n pa pb : Byte} {va vb : Word}

/-- A number above 31 refuses the request, and the reply has no station to show. -/
theorem stationStoreOwner_of_no_station (h : 31 < n.toNat) :
    stationStoreOwner n pa va pb vb s = ⟨.invalid, 0x28#8 :: stationItems n ⟨none, none⟩, s⟩ := by
  simp only [stationStoreOwner, stationOf_eq_none h, stationReply_eq, FieldCode.code, Station.empty]

/-- For a station of the table, the first field that fails is the answer, and where none fails both positions are stored. -/
theorem stationStoreOwner_of_station {k : Fin 32} (h : k.val = n.toNat) :
    stationStoreOwner n pa va pb vb s =
      match storeFields.find? (storeFieldFails pa va pb vb) with
      | some f => ⟨.invalid, f.code :: stationItems n s.stations[k], s⟩
      | none =>
        let st : Station := ⟨storedPosition pa va s.stations[k].a, storedPosition pb vb s.stations[k].b⟩
        ⟨.ok, 0#8 :: stationItems n st, s.setStation k st⟩ := by
  simp only [stationStoreOwner, stationOf_eq_some h, stationReply_eq, storeFields, List.find?_cons, List.find?_nil, storeFieldFails,
    ← presenceOfCode_eq_none_iff]
  cases hpa : presenceOfCode pa with
  | none => rfl
  | some a =>
  have hfailA := valueFails_iff_admits_eq_false hpa va
  cases hva : a.admits va with
  | false => simp [hfailA, hva]
  | true =>
  cases hpb : presenceOfCode pb with
  | none => simp [hfailA, hva]
  | some b =>
  have hfailB := valueFails_iff_admits_eq_false hpb vb
  cases hvb : b.admits vb with
  | false => simp [hfailA, hfailB, hva, hvb]
  | true =>
  simp [hfailA, hfailB, hva, hvb, storedPosition_of_presence hpa, storedPosition_of_presence hpb, FieldCode.code]

/-- A STATION STORE that the link takes gets its owner's answer, on the part as the owner leaves it. -/
theorem exec_stationStore_of_owner {t : State} {status : Status} {reply : List Byte} (filler : List Byte) (hready : s.linkReady = true)
    (howner : stationStoreOwner n pa va pb vb s = ⟨status, reply, t⟩) (hlink : t.link = s.link) :
    exec (.stationStore n pa va pb vb filler) s = .next (t.answered (.stationStore n pa va pb vb filler) status reply) :=
  congrArg _ (takeRequest_of_owner (.stationStore n pa va pb vb filler) hready rfl howner hlink)

end

/-- Settles O29: the field codes by evaluation, and each clause is the owner's answer, by the number or by the first field that
fails. -/
theorem stationStoreChangesBothPositions : Obligations.StationStoreChangesBothPositions := by
  refine ⟨rfl, fun s n pa pb va vb filler hready => ⟨fun hn => ?noStation, fun k hk => ?station⟩⟩
  case noStation => exact exec_stationStore_of_owner filler hready (stationStoreOwner_of_no_station hn) rfl
  case station =>
    have howner := stationStoreOwner_of_station (s := s) (pa := pa) (va := va) (pb := pb) (vb := vb) hk
    rw [storeFields] at howner
    split <;> rename_i hfind <;> rw [hfind] at howner
    · exact exec_stationStore_of_owner filler hready howner rfl
    · rintro st rfl
      exact exec_stationStore_of_owner filler hready howner rfl

end Sys2Proof.Machine
end

section
/-! SUPPORT. The journal's claims (chapter 8): what an admission leaves of the queues, and the answer to each claim. -/

namespace Sys2Proof.Machine

/-! ### The queues through an admission: starts, arrivals and endings without a flush leave them -/

/-- A change of one axis that leaves its queue leaves both. -/
theorem onAxis_queue (s : State) (x : Axis) (f : AxisUnit → AxisUnit) (h : (f (s.axis x)).queue = (s.axis x).queue) (y : Axis) :
    ((s.onAxis x f).axis y).queue = (s.axis y).queue := by
  by_cases hy : y = x
  · rw [hy, onAxis_axis, h]
  · rw [onAxis_axis_ne s x y f hy]

@[simp] theorem setSlot_queue (s : State) (x : Axis) (sl : Option Slot) (y : Axis) :
    ((s.setSlot x sl).axis y).queue = (s.axis y).queue := onAxis_queue s x _ rfl y

@[simp] theorem setAxisState_queue (s : State) (x : Axis) (st : AxisState) (y : Axis) :
    ((s.setAxisState x st).axis y).queue = (s.axis y).queue := onAxis_queue s x _ rfl y

@[simp] theorem setCounter_queue (s : State) (x : Axis) (p : Word) (y : Axis) :
    ((s.setCounter x p).axis y).queue = (s.axis y).queue := by
  rw [State.setCounter, seal_axis]
  exact onAxis_queue s x _ rfl y

@[simp] theorem captureOnce_queue (s : State) (x : Axis) (sl : Slot) (y : Axis) :
    ((s.captureOnce x sl).axis y).queue = (s.axis y).queue := by
  unfold State.captureOnce
  split
  · simp [State.capture]
  · rfl

/-- An ending flushes a queue by its after-action FLUSH alone (R96). -/
theorem endMove_queue (s : State) (x : Axis) (kind : RecordKind) (cause : Cause) {after : AfterAction} (hafter : after ≠ .flush)
    (y : Axis) : ((s.endMove x kind cause after).axis y).queue = (s.axis y).queue := by
  unfold State.endMove
  cases (s.axis x).slot with
  | none => rfl
  | some sl =>
    cases after with
    | proceed => simp only [State.moveOn]; split <;> simp
    | halt => simp [State.moveOn]
    | flush => exact absurd rfl hafter

@[simp] theorem startMove_queue (s : State) (x : Axis) (y : Axis) : ((s.startMove x).axis y).queue = (s.axis y).queue := by
  cases hslot : (s.axis x).slot with
  | none => simp only [State.startMove, hslot]
  | some sl =>
    cases hcheck : startCheck (s.axis x).lines sl with
    | dwell => rw [startMove_of_dwell hslot hcheck, onAxis_queue s x _ rfl]
    | zeroDistance => rw [startMove_of_zeroDistance hslot hcheck, endMove_queue s x _ _ (by decide)]
    | homeFound =>
      rw [startMove_of_homeFound hslot hcheck, ← captureOnce_eq_capturedOnce, endMove_queue _ x _ _ (by decide), captureOnce_queue]
    | limitActive => rw [startMove_of_limitActive hslot hcheck, endMove_queue s x _ _ (by decide)]
    | run =>
      simp only [State.startMove, hslot, hcheck]
      exact onAxis_queue s x _ rfl y

theorem decidePair_queue (s : State) (slA slB : Slot) (y : Axis) : ((s.decidePair slA slB).axis y).queue = (s.axis y).queue := by
  have hrefused (causeA causeB : Cause) :
      (((s.endMove .A .refused causeA .halt).endMove .B .refused causeB .halt).axis y).queue = (s.axis y).queue :=
    (endMove_queue _ .B _ _ (by decide) y).trans (endMove_queue s .A _ _ (by decide) y)
  by_cases hpair : slA.move.pair = slB.move.pair
  case neg => rw [decidePair_of_mismatch s hpair, hrefused]
  by_cases hlimit : startCheck s.a.lines slA = .limitActive ∨ startCheck s.b.lines slB = .limitActive
  case pos => rw [decidePair_of_limited s hpair hlimit, hrefused]
  obtain ⟨hA, hB⟩ := not_or.1 hlimit
  rw [decidePair_of_clear s hpair hA hB, startMove_queue, startMove_queue]

theorem arrivePair_queue (s : State) (x : Axis) (sl : Slot) (y : Axis) : ((s.arrivePair x sl).axis y).queue = (s.axis y).queue := by
  unfold State.arrivePair
  cases (s.axis x.other).pairWaiting with
  | none => exact setSlot_queue s x _ y
  | some other => cases x <;> exact decidePair_queue s _ _ y

/-- The granted path takes the head from its queue (R43). -/
theorem admitHead_queue {s : State} {x : Axis} {m : Move} {rest : List Move} (hqueue : (s.axis x).queue = m :: rest) :
    ((s.admitHead x).axis x).queue = rest := by
  have hinstalled (sl : Slot) : ((s.grantReservation.installMove x rest sl).axis x).queue = rest := by
    simp [State.installMove]
  simp only [State.admitHead, hqueue]
  cases s.resolve x m with
  | error cause => exact (endMove_queue _ x _ _ (by decide) x).trans (hinstalled _)
  | ok target =>
    cases m.start with
    | now => exact (startMove_queue _ x x).trans (hinstalled _)
    | line => exact (setSlot_queue _ x _ x).trans (hinstalled _)
    | pair => exact (arrivePair_queue _ x _ x).trans (hinstalled _)

/-! ### The claim for a reservation (R42, R142, R144) -/

section
variable {s : State} {x : Axis} {m : Move} {rest : List Move} (hidle : (s.axis x).state = .idle)
  (hqueue : (s.axis x).queue = m :: rest)
include hidle hqueue

/-- An IDLE axis with a queued move makes its attempt, which the admission rule answers. -/
theorem attemptAdmission_of_queued : s.attemptAdmission x = if s.journal.admits then s.admitHead x else s.joinWaitList x := by
  have hattempt : (s.axis x).state = .idle ∧ (s.axis x).queue ≠ [] := ⟨hidle, by simp [hqueue]⟩
  exact if_pos hattempt

theorem attemptAdmission_of_room (hroom : s.journal.records.length + s.journal.reserved ≤ 125) :
    s.attemptAdmission x = s.admitHead x :=
  (attemptAdmission_of_queued hidle hqueue).trans (if_pos ((admits_iff _).2 hroom))

theorem attemptAdmission_of_full (hfull : 126 ≤ s.journal.records.length + s.journal.reserved) :
    s.attemptAdmission x = s.joinWaitList x :=
  (attemptAdmission_of_queued hidle hqueue).trans (if_neg fun hadmits => by have := (admits_iff _).1 hadmits; omega)

end

/-- Settles O20: the written and the dropped record by the journal's laws, and the answer to a reservation on each side of 126. -/
theorem claimsAreJudgedAt126 : Obligations.ClaimsAreJudgedAt126 := by
  refine fun s => ⟨writeRecord_eq s, fun hroom => ⟨fun e => offerRecord_of_room s e hroom, fun x m rest hidle hqueue => ?granted⟩,
    fun hfull => ⟨fun e => (offerRecord_of_full s e hfull).trans (dropRecord_eq s), fun x m rest hidle hqueue => ?refused⟩⟩
  case granted => exact ⟨attemptAdmission_of_room hidle hqueue hroom, admitHead_queue hqueue⟩
  case refused => exact attemptAdmission_of_full hidle hqueue hfull

end Sys2Proof.Machine
end

section
/-! SUPPORT. The journal's requests (chapter 8): the held window, the 20 bytes of a record, READ JOURNAL and ACK JOURNAL. -/

namespace Sys2Proof.Machine

/-! ### The held window (R134, R135) -/

theorem inWindow_iff (j : Journal) (n : Half) : j.inWindow n = true ↔ (n - j.oldest).toNat < j.records.length :=
  decide_eq_true_iff

/-- In consecutive records, each number is the first one's and as many more as records stand before it. -/
theorem consecutiveFrom_seq {n : Half} {rs : List Record} (h : consecutiveFrom n rs) {i : Nat} {r : Record} (hi : rs[i]? = some r) :
    r.seq = n + BitVec.ofNat 16 i := by
  induction rs generalizing n i with
  | nil => simp at hi
  | cons first rest ih =>
    obtain ⟨hfirst, hrest⟩ := h
    cases i with
    | zero =>
      obtain rfl : first = r := by simpa using hi
      simp [hfirst]
    | succ i =>
      rw [ih hrest (by simpa using hi), BitVec.ofNat_add]
      ring

section
variable {j : Journal} (hseq : j.SequenceLaw)
include hseq

theorem oldest_of_sequenceLaw : j.oldest = j.seq - BitVec.ofNat 16 j.records.length := by
  unfold Journal.oldest
  cases hrecords : j.records with
  | nil => simp
  | cons r rest =>
    rw [Journal.SequenceLaw, hrecords] at hseq
    exact hseq.1

theorem record_seq_of_sequenceLaw {i : Nat} {r : Record} (hi : j.records[i]? = some r) : r.seq = j.oldest + BitVec.ofNat 16 i := by
  rw [oldest_of_sequenceLaw hseq]
  exact consecutiveFrom_seq hseq hi

/-- The window's two numbers and the held count agree. -/
theorem held_eq_newest_sub_oldest : BitVec.ofNat 16 j.records.length = j.newest - j.oldest + 1#16 := by
  rw [oldest_of_sequenceLaw hseq, Journal.newest]
  ring

/-- The window is exactly the numbers held. -/
theorem window_iff_held (hlength : j.records.length ≤ 128) (n : Half) :
    (n - j.oldest).toNat < j.records.length ↔ ∃ r ∈ j.records, r.seq = n := by
  constructor
  · intro hlt
    refine ⟨j.records[(n - j.oldest).toNat], List.getElem_mem hlt, ?_⟩
    rw [record_seq_of_sequenceLaw hseq (List.getElem?_eq_getElem hlt), BitVec.ofNat_toNat, BitVec.setWidth_eq]
    ring
  · rintro ⟨r, hr, rfl⟩
    obtain ⟨i, hi⟩ := List.mem_iff_getElem?.1 hr
    have hlt : i < j.records.length := (List.getElem?_eq_some_iff.1 hi).1
    have hplace : (r.seq - j.oldest).toNat = i := by
      rw [record_seq_of_sequenceLaw hseq hi, add_sub_cancel_left, BitVec.toNat_ofNat]
      omega
    rwa [hplace]

end

/-! ### The bytes of a record (R203, 12.4, 12.7) -/

/-- A byte of a word is the word's number, divided down to it. -/
theorem extractLsb'_byte {w : Nat} (v : BitVec w) (start : Nat) : v.extractLsb' start 8 = BitVec.ofNat 8 (v.toNat / 2 ^ start) := by
  rw [BitVec.extractLsb', Nat.shiftRight_eq_div_pow]

theorem bytes2_eq (h : Half) : bytes2 h = numberBytes 2 h.toNat := by
  simp [bytes2, numberBytes, extractLsb'_byte]

theorem bytes3_eq (n : Nat) : bytes3 n = numberBytes 3 n := by
  simp only [bytes3, numberBytes, extractLsb'_byte, BitVec.toNat_ofNat, Nat.div_div_eq_div_mul, List.nil_append, List.cons_append,
    List.cons.injEq, and_true]
  refine ⟨?_, ?_, ?_⟩ <;> exact BitVec.eq_of_toNat_eq (by simp only [BitVec.toNat_ofNat]; omega)

theorem bytes4_eq (w : Word) : bytes4 w = numberBytes 4 w.toNat := by
  simp [bytes4, numberBytes, extractLsb'_byte, Nat.div_div_eq_div_mul]

theorem recordKindByte_eq_code (k : RecordKind) : recordKindByte k = k.code := by cases k <;> rfl

theorem causeByte_eq_code (c : Cause) : causeByte c = c.code := by cases c <;> rfl

/-- The flag byte of a record: halted, the absent tag, the absent extra, and the axis (12.4). -/
def Entry.flagByte (e : Entry) : Byte :=
  bitOf 7 e.halted ||| bitOf 6 e.tag.isNone ||| bitOf 5 e.extra.isNone ||| axisBits e.axis

theorem bytes_flagByte (r : Record) : r.bytes[3]? = some r.entry.flagByte := rfl

/-- Each item of the flag byte stands in its own bits. -/
theorem flagByte_bits (e : Entry) :
    e.flagByte.getLsbD 7 = e.halted ∧ e.flagByte.getLsbD 6 = e.tag.isNone ∧ e.flagByte.getLsbD 5 = e.extra.isNone ∧
      e.flagByte.extractLsb' 2 3 = 0#3 ∧ e.flagByte.extractLsb' 0 2 = (axisBits e.axis).extractLsb' 0 2 := by
  have hbits (halted noTag noExtra : Bool) (x : Byte) (hx : x = 0#8 ∨ x = 1#8 ∨ x = 2#8) :
      let b := bitOf 7 halted ||| bitOf 6 noTag ||| bitOf 5 noExtra ||| x
      b.getLsbD 7 = halted ∧ b.getLsbD 6 = noTag ∧ b.getLsbD 5 = noExtra ∧ b.extractLsb' 2 3 = 0#3 ∧
        b.extractLsb' 0 2 = x.extractLsb' 0 2 := by
    obtain rfl | rfl | rfl := hx <;> revert halted noTag noExtra <;> decide
  have haxis : axisBits e.axis = 0#8 ∨ axisBits e.axis = 1#8 ∨ axisBits e.axis = 2#8 := by
    rcases e.axis with _ | _ | _ <;> decide
  exact hbits _ _ _ _ haxis

/-- The record's layout of 12.4 in numbers, an absent tag or extra sent as 0. -/
theorem bytes_eq_numberBytes (r : Record) :
    r.bytes = numberBytes 2 r.seq.toNat ++ [recordKindByte r.entry.kind, r.entry.flagByte] ++
      numberBytes 2 (r.entry.tag.getD 0#16).toNat ++ [causeByte r.entry.cause, r.entry.small] ++
      numberBytes 4 r.entry.pulses.toNat ++ numberBytes 4 r.entry.position.toNat ++
      (numberBytes 2 (r.entry.extra.getD (0#16, 0#16)).1.toNat ++ numberBytes 2 (r.entry.extra.getD (0#16, 0#16)).2.toNat) := by
  simp only [Record.bytes, bytes2_eq, bytes4_eq, recordKindByte_eq_code, causeByte_eq_code, Entry.flagByte, List.append_assoc]

/-! ### READ JOURNAL (R153) -/

section
variable {s : State} {start : Half} {k : Byte}

theorem readJournalOwner_of_bad_count (hcount : k = 0#8 ∨ 3 < k.toNat) :
    readJournalOwner start k s = ⟨.invalid, s.journal.readRefusal .count, s⟩ :=
  if_pos (hcount.imp_left fun hzero => by rw [hzero]; rfl)

/-- With a count of 1 to 3, the start's place decides: in the window, the counter itself, or neither. -/
theorem readJournalOwner_of_count (hpos : k ≠ 0#8) (hmax : k.toNat ≤ 3) :
    readJournalOwner start k s =
      if (start - s.journal.oldest).toNat < s.journal.records.length then
        ⟨.ok, byteOf (min k.toNat (s.journal.records.length - (start - s.journal.oldest).toNat)) ::
          ((s.journal.records.drop (start - s.journal.oldest).toNat).take k.toNat).flatMap Record.bytes, s⟩
      else if start = s.journal.seq then ⟨.ok, [0#8], s⟩
      else ⟨.notFound, s.journal.readRefusal .none, s⟩ := by
  have hcount : ¬(k.toNat = 0 ∨ Config.readLimit < k.toNat) := by
    have hlimit : Config.readLimit = 3 := rfl
    bv_omega
  simp only [readJournalOwner, if_neg hcount, inWindow_iff, Journal.readFrom, List.length_take, List.length_drop]

/-- A READ JOURNAL that the link takes gets its owner's answer; it changes nothing. -/
theorem exec_readJournal_of_owner {status : Status} {reply : List Byte} (filler : List Byte) (hready : s.linkReady = true)
    (howner : readJournalOwner start k s = ⟨status, reply, s⟩) :
    exec (.readJournal start k filler) s = .next (s.answered (.readJournal start k filler) status reply) :=
  congrArg _ (takeRequest_of_owner (.readJournal start k filler) hready rfl howner rfl)

end

/-- Settles O33: the owner's answers by the count and then by the start's place, the record's bytes as numbers, and the window's facts
from the sequence law. -/
theorem readJournalReturnsHeldRecords : Obligations.ReadJournalReturnsHeldRecords := by
  refine ⟨fun s start k c filler hready hc => ?requests, fun r b hb => ?layout,
    fun h w n => ⟨bytes2_eq h, bytes3_eq n, bytes4_eq w⟩, fun j hseq hlength => ⟨BitVec.sub_add_cancel _ _,
      held_eq_newest_sub_oldest hseq, fun i r => record_seq_of_sequenceLaw hseq, window_iff_held hseq hlength⟩⟩
  case requests =>
    subst hc
    refine ⟨fun hcount => exec_readJournal_of_owner filler hready (readJournalOwner_of_bad_count hcount), ?_⟩
    rintro d rfl hpos hmax
    have howner := readJournalOwner_of_count (s := s) (start := start) hpos hmax
    refine ⟨fun hheld => ?window, fun hout hcounter => ?counter, fun hout hother => ?outside⟩
    case window => exact exec_readJournal_of_owner filler hready (howner.trans (if_pos hheld))
    case counter =>
      exact exec_readJournal_of_owner filler hready (howner.trans ((if_neg (Nat.not_lt.2 hout)).trans (if_pos hcounter)))
    case outside =>
      exact exec_readJournal_of_owner filler hready (howner.trans ((if_neg (Nat.not_lt.2 hout)).trans (if_neg hother)))
  case layout =>
    obtain rfl : r.entry.flagByte = b := Option.some.inj ((bytes_flagByte r).symm.trans hb)
    obtain ⟨hhalted, htag, hextra, hzero, haxis⟩ := flagByte_bits r.entry
    refine ⟨?bytes, hhalted, htag, hextra, hzero, haxis.trans ?axis⟩
    case bytes =>
      rw [bytes_eq_numberBytes]
      cases r.entry.tag <;> cases r.entry.extra <;> rfl
    case axis => rcases r.entry.axis with _ | _ | _ <;> rfl

/-! ### ACK JOURNAL and the freed-space service (R146, R147, R155) -/

/-- The GAP record is placed after the held ones, and the check code follows the count it clears (R147). -/
theorem writeGap_kept (s : State) : s.Kept s.writeGap := by
  rw [State.writeGap, writeRecord_eq]
  exact ⟨rfl, rfl, rfl, rfl, rfl, rfl, rfl, rfl, rfl, rfl, rfl, List.prefix_append _ _, fun _ => rfl⟩

theorem grantHead_kept (s : State) (x : Axis) : s.Kept (s.grantHead x) :=
  State.Kept.trans (t := { s with journal := { s.journal with waitList := s.journal.waitList.tail } })
    ⟨rfl, rfl, rfl, rfl, rfl, rfl, rfl, rfl, rfl, rfl, rfl, List.prefix_rfl, id⟩ (admitHead_kept _ x)

theorem serveWaiting_kept (xs : List Axis) (s : State) : s.Kept (State.serveWaiting xs s) := by
  induction xs generalizing s with
  | nil => exact .refl s
  | cons x rest ih =>
    unfold State.serveWaiting
    split
    · exact (grantHead_kept s x).trans (ih _)
    · exact .refl s

theorem serveFreedSpace_kept (s : State) : s.Kept s.serveFreedSpace := by
  unfold State.serveFreedSpace
  split_ifs
  · exact serveWaiting_kept _ s
  · exact (writeGap_kept s).trans (serveWaiting_kept _ _)
  · exact .refl s

section
variable {s : State} {a : Half}

theorem ackJournalOwner_of_outside (h : s.journal.records.length ≤ (a - s.journal.oldest).toNat) :
    ackJournalOwner a s = ⟨.notFound, s.journal.ackReply, s⟩ :=
  if_neg fun hwindow => Nat.not_lt.2 h ((inWindow_iff _ _).1 hwindow)

theorem ackJournalOwner_of_held (h : (a - s.journal.oldest).toNat < s.journal.records.length) :
    ackJournalOwner a s =
      ⟨.ok, (s.removeThrough a).serveFreedSpace.journal.ackReply, (s.removeThrough a).serveFreedSpace⟩ :=
  if_pos ((inWindow_iff _ _).2 h)

/-- An ACK JOURNAL that the link takes gets its owner's answer, on the part as the owner leaves it. -/
theorem exec_ackJournal_of_owner {t : State} {status : Status} {reply : List Byte} (filler : List Byte) (hready : s.linkReady = true)
    (howner : ackJournalOwner a s = ⟨status, reply, t⟩) (hlink : t.link = s.link) :
    exec (.ackJournal a filler) s = .next (t.answered (.ackJournal a filler) status reply) :=
  congrArg _ (takeRequest_of_owner (.ackJournal a filler) hready rfl howner hlink)

end

/-- Settles O34: the owner's two answers by the held window; the service leaves the link, so its state takes the reply. -/
theorem ackJournalRemovesAndServes : Obligations.AckJournalRemovesAndServes := by
  rintro s a d filler hready rfl items rfl
  refine ⟨fun houtside => ?outside, fun hheld t ht => ?held⟩
  case outside => exact exec_ackJournal_of_owner filler hready (ackJournalOwner_of_outside houtside) rfl
  case held =>
    subst ht
    exact exec_ackJournal_of_owner filler hready (ackJournalOwner_of_held hheld) (serveFreedSpace_kept _).link

end Sys2Proof.Machine
end

section
/-! SUPPORT. The serial link (chapter 10): the CRC of R177 as a polynomial remainder, NOP, and the settings. -/

namespace Sys2Proof.Machine

/-- The generator polynomial of R177. -/
noncomputable def crcGenerator : Polynomial (ZMod 2) :=
  Polynomial.X ^ 8 + Polynomial.X ^ 2 + Polynomial.X + 1

/-! ### The CRC register modulo the generator (R177) -/

/-- The exclusive or of two bytes is the sum of their polynomials. -/
theorem bytePolynomial_xor (a b : Byte) : bytePolynomial (a ^^^ b) = bytePolynomial a + bytePolynomial b := by
  unfold bytePolynomial
  rw [← List.sum_map_add]
  refine congrArg List.sum (List.map_congr_left fun i _ => ?_)
  rw [BitVec.getLsbD_xor]
  cases a.getLsbD i <;> cases b.getLsbD i <;> simp [CharTwo.add_self_eq_zero]

/-- A byte shifted left is its polynomial times X, without the power that falls out of the byte. -/
theorem bytePolynomial_shiftLeft (r : Byte) :
    bytePolynomial (r <<< 1) = Polynomial.X * bytePolynomial r + if r.msb then Polynomial.X ^ 8 else 0 := by
  have hmsb : r.msb = r.getLsbD 7 := BitVec.msb_eq_getLsbD_last r
  simp [bytePolynomial, List.range_succ, BitVec.getLsbD_shiftLeft, hmsb, mul_add, ← sq, ← pow_succ', add_assoc,
    CharTwo.add_self_eq_zero]

/-- One shift of the register multiplies its polynomial by X and takes the generator away where a power fell out. -/
theorem bytePolynomial_crcShift (r : Byte) :
    bytePolynomial (crcShift r) = Polynomial.X * bytePolynomial r + if r.msb then crcGenerator else 0 := by
  have hseven : bytePolynomial 7#8 = 1 + Polynomial.X + Polynomial.X ^ 2 := by
    simp [bytePolynomial, List.range_succ, add_assoc]
  unfold crcShift
  split <;> rename_i hmsb
  · rw [bytePolynomial_xor, bytePolynomial_shiftLeft, hseven, if_pos hmsb, crcGenerator]
    ring
  · rw [bytePolynomial_shiftLeft, if_neg hmsb]

/-- The polynomial of a byte, modulo the generator. -/
noncomputable def byteResidue (b : Byte) : AdjoinRoot crcGenerator := AdjoinRoot.mk crcGenerator (bytePolynomial b)

theorem byteResidue_crcShift (r : Byte) : byteResidue (crcShift r) = AdjoinRoot.root crcGenerator * byteResidue r := by
  unfold byteResidue
  rw [bytePolynomial_crcShift]
  split <;> simp

theorem byteResidue_repeat_crcShift (n : Nat) (r : Byte) :
    byteResidue (Nat.repeat crcShift n r) = AdjoinRoot.root crcGenerator ^ n * byteResidue r := by
  induction n with
  | zero => simp [Nat.repeat]
  | succ n ih => rw [Nat.repeat, byteResidue_crcShift, ih, pow_succ', mul_assoc]

/-- One more byte is added to the register, which is then multiplied by X eight times. -/
theorem byteResidue_crcByte (r b : Byte) :
    byteResidue (crcByte r b) = AdjoinRoot.root crcGenerator ^ 8 * (byteResidue r + byteResidue b) := by
  rw [crcByte, byteResidue_repeat_crcShift, byteResidue, bytePolynomial_xor, map_add]
  rfl

/-- The register holds the message so far, shifted left by eight, modulo the generator. -/
theorem byteResidue_crc8 (bytes : List Byte) :
    byteResidue (crc8 bytes) = AdjoinRoot.mk crcGenerator (messagePolynomial bytes * Polynomial.X ^ 8) := by
  induction bytes using List.reverseRecOn with
  | nil => simp [crc8, messagePolynomial, byteResidue, bytePolynomial]
  | append_singleton bytes b ih =>
    have hcrc : crc8 (bytes ++ [b]) = crcByte (crc8 bytes) b := List.foldl_concat ..
    have hmessage : messagePolynomial (bytes ++ [b]) = messagePolynomial bytes * Polynomial.X ^ 8 + bytePolynomial b :=
      List.foldl_concat ..
    rw [hcrc, byteResidue_crcByte, ih, hmessage, byteResidue, ← map_add, map_mul, map_pow, AdjoinRoot.mk_X, mul_comm]

theorem crcGenerator_dvd (bytes : List Byte) :
    crcGenerator ∣ messagePolynomial bytes * Polynomial.X ^ 8 + bytePolynomial (crc8 bytes) := by
  rw [← AdjoinRoot.mk_eq_zero, map_add, ← byteResidue_crc8, byteResidue, ← map_add, CharTwo.add_self_eq_zero, map_zero]

/-- A register combined with itself is 0 and stays 0 through the eight shifts. -/
theorem crc8_append_crc8 (bytes : List Byte) : crc8 (bytes ++ [crc8 bytes]) = 0#8 :=
  calc crc8 (bytes ++ [crc8 bytes])
    _ = crcByte (crc8 bytes) (crc8 bytes) := List.foldl_concat ..
    _ = Nat.repeat crcShift 8 0#8 := by rw [crcByte, BitVec.xor_self]
    _ = 0#8 := rfl

/-- Settles O5: the register is the message's residue modulo the generator, by induction on the bytes; the example, the frames' layouts
and the status codes by evaluation. -/
theorem crcIsThePolynomialRemainder : Obligations.CrcIsThePolynomialRemainder := by
  refine ⟨fun bytes => ⟨crcGenerator_dvd bytes, crc8_append_crc8 bytes⟩, by decide +kernel, ?request, rfl, ?reply⟩
  case request => rintro kind payload _ rfl; rfl
  case reply => rintro r _ rfl; rfl

/-! ### NOP (R191) -/

/-- Settles O11: the owner of NOP answers OK on the part as it stands. -/
theorem nopChangesNothing : Obligations.NopChangesNothing := fun _ filler hready =>
  congrArg _ (takeRequest_of_owner (.nop filler) hready rfl rfl rfl)

/-! ### A settings record's codes and checks (R186, 12.6) -/

theorem polarityOfCode_eq_some {b : Byte} {p : Polarity} : polarityOfCode b = some p ↔ b = p.code := by
  cases p <;> revert b <;> decide

theorem groupOrderOfCode_eq_some {b : Byte} {g : GroupOrder} : groupOrderOfCode b = some g ↔ b = g.code := by
  cases g <;> revert b <;> decide

theorem axisOrderOfCode_eq_some {b : Byte} {x : Axis} : axisOrderOfCode b = some x ↔ b = axisOrderCode x := by
  cases x <;> revert b <;> decide

theorem polarityOfCode_isNone (b : Byte) : (polarityOfCode b).isNone = decide (1 < b.toNat) := by
  revert b; decide

theorem settingsFieldFails_emergencyStyle (r : RawSettings) :
    settingsFieldFails r .emergencyStyle = (styleOfCode r.emergencyStyle).isNone := by
  rw [Bool.eq_iff_iff]
  simp [settingsFieldFails, styleOfCode_eq_none_iff]

theorem settingsFieldFails_polarityA (r : RawSettings) : settingsFieldFails r .polarityA = (polarityOfCode r.polarityA).isNone :=
  (polarityOfCode_isNone r.polarityA).symm

theorem settingsFieldFails_polarityB (r : RawSettings) : settingsFieldFails r .polarityB = (polarityOfCode r.polarityB).isNone :=
  (polarityOfCode_isNone r.polarityB).symm

theorem settingsFieldFails_threshold (r : RawSettings) :
    settingsFieldFails r .threshold = decide (r.threshold.toNat = 0 ∨ 128 < r.threshold.toNat) := by
  have hzero : r.threshold = 0#8 ↔ r.threshold.toNat = 0 := by bv_omega
  simp only [settingsFieldFails, hzero]

theorem settingsFieldFails_groupOrder (r : RawSettings) :
    settingsFieldFails r .groupOrder = (groupOrderOfCode r.groupOrder).isNone := by
  have codes : ∀ b : Byte, decide (5 < b.toNat) = (groupOrderOfCode b).isNone := by decide
  exact codes r.groupOrder

theorem settingsFieldFails_axisOrder (r : RawSettings) :
    settingsFieldFails r .axisOrder = (axisOrderOfCode r.axisOrder).isNone := by
  have codes : ∀ b : Byte, decide (1 < b.toNat) = (axisOrderOfCode b).isNone := by decide
  exact codes r.axisOrder

theorem Polarity.code_inj {p q : Polarity} : p.code = q.code ↔ p = q := by
  cases p <;> cases q <;> decide

/-- The fields of a settings record in the order R186 checks them. -/
def settingsFields : List FieldCode := [.emergencyStyle, .polarityA, .polarityB, .threshold, .groupOrder, .axisOrder]

/-- The first field that fails is the answer of a settings record, and a record none of whose fields fails is the settings that its
bytes spell (R186). -/
theorem checkSettings_of_find? (r : RawSettings) :
    match settingsFields.find? (settingsFieldFails r) with
    | some f => checkSettings r = .error f
    | none => ∃ c : Settings, checkSettings r = .ok c ∧ c.raw = r := by
  unfold settingsFields checkSettings
  simp only [List.find?_cons, List.find?_nil, settingsFieldFails_emergencyStyle, settingsFieldFails_polarityA,
    settingsFieldFails_polarityB, settingsFieldFails_threshold, settingsFieldFails_groupOrder, settingsFieldFails_axisOrder]
  cases hstyle : styleOfCode r.emergencyStyle with
  | none => rfl
  | some st =>
  cases hpolarityA : polarityOfCode r.polarityA with
  | none => rfl
  | some pa =>
  cases hpolarityB : polarityOfCode r.polarityB with
  | none => rfl
  | some pb =>
  by_cases hrange : r.threshold.toNat = 0 ∨ 128 < r.threshold.toNat
  case pos => simp [hrange]
  cases hgroup : groupOrderOfCode r.groupOrder with
  | none => simp [hrange]
  | some g =>
  cases haxis : axisOrderOfCode r.axisOrder with
  | none => simp [hrange]
  | some x =>
  simp [hrange, Settings.raw, ← styleOfCode_eq_some.1 hstyle, ← polarityOfCode_eq_some.1 hpolarityA,
    ← polarityOfCode_eq_some.1 hpolarityB, ← groupOrderOfCode_eq_some.1 hgroup, ← axisOrderOfCode_eq_some.1 haxis]

/-! ### SET SETTINGS and the direction output (R56, R57, R186) -/

section
variable {s : State} {r : RawSettings}

/-- Check 7 of R186, on the bytes of the record that passed the six before it. -/
theorem polarityBusy_iff (s : State) (c : Settings) :
    s.polarityBusy c = true ↔
      (c.raw.polarityA ≠ s.settings.polarityA.code ∧ s.a.slot ≠ none) ∨
        (c.raw.polarityB ≠ s.settings.polarityB.code ∧ s.b.slot ≠ none) := by
  simp [State.polarityBusy, Settings.raw, Polarity.code_inj, Option.isSome_iff_ne_none]

theorem setSettingsOwner_of_error {f : FieldCode} (h : checkSettings r = .error f) :
    setSettingsOwner r s = ⟨.invalid, f.code :: settingsBytes s.settings.raw, s⟩ := by
  simp only [setSettingsOwner, h]

theorem setSettingsOwner_of_busy {c : Settings} (h : checkSettings r = .ok c) (hbusy : s.polarityBusy c = true) :
    setSettingsOwner r s = ⟨.busy, 0#8 :: settingsBytes s.settings.raw, s⟩ := by
  simp only [setSettingsOwner, h, if_pos hbusy, FieldCode.code]

theorem setSettingsOwner_ok {c : Settings} (h : checkSettings r = .ok c) (hfree : ¬s.polarityBusy c = true) :
    setSettingsOwner r s = ⟨.ok, 0#8 :: settingsBytes c.raw, { s with settings := c }⟩ := by
  simp only [setSettingsOwner, h, if_neg hfree, FieldCode.code]

/-- A SET SETTINGS that the link takes gets its owner's answer, on the part as the owner leaves it. -/
theorem exec_setSettings_of_owner {t : State} {status : Status} {reply : List Byte} (filler : List Byte) (hready : s.linkReady = true)
    (howner : setSettingsOwner r s = ⟨status, reply, t⟩) (hlink : t.link = s.link) :
    exec (.setSettings r filler) s = .next (t.answered (.setSettings r filler) status reply) :=
  congrArg _ (takeRequest_of_owner (.setSettings r filler) hready rfl howner hlink)

/-- GET SETTINGS reports the fields as they stand (R188). -/
theorem exec_getSettings (filler : List Byte) (hready : s.linkReady = true) :
    exec (.getSettings filler) s = .next (s.answered (.getSettings filler) .ok (settingsBytes s.settings.raw)) :=
  congrArg _ (takeRequest_of_owner (owner := getSettingsOwner) (.getSettings filler) hready rfl rfl rfl)

end

theorem Style.eq_ite_code (st : Style) : st = if st.code = 0#8 then .immediate else .ramped := by cases st <;> rfl
theorem Polarity.eq_ite_code (p : Polarity) : p = if p.code = 0#8 then .normal else .inverted := by cases p <;> rfl
theorem eq_ite_axisOrderCode (x : Axis) : x = if axisOrderCode x = 0#8 then .A else .B := by cases x <;> rfl

/-- The direction output of a running part (R56, R57). -/
theorem directionHigh_iff {s : State} (x : Axis) {polarity : Polarity} (hrunning : s.power = .running)
    (hpolarity : polarity = match x with | .A => s.settings.polarityA | .B => s.settings.polarityB) :
    s.directionHigh x = true ↔
      ((s.axis x).lastDirection = .plus ∧ polarity = .normal) ∨ ((s.axis x).lastDirection = .minus ∧ polarity = .inverted) := by
  have hlive : s.live = true := by simp [State.live, hrunning]
  have hout : s.directionHigh x = (((s.axis x).lastDirection == .plus) == (polarity == .normal)) := by
    cases x <;> simp only [State.directionHigh, hpolarity, hlive, Bool.true_and]
  rw [hout]
  cases (s.axis x).lastDirection <;> cases polarity <;> decide

/-- Settles O17: the codes by evaluation, the direction output by its equation, and SET SETTINGS as its owner's answer, by the first
field that fails and then by check 7. -/
theorem settingsAreSetAndReported : Obligations.SettingsAreSetAndReported := by
  refine ⟨rfl, fun s x polarity hrunning hpolarity => directionHigh_iff x hrunning hpolarity,
    fun s r filler hready => ⟨exec_getSettings filler hready, ?set⟩⟩
  have hcheck := checkSettings_of_find? r
  rw [settingsFields] at hcheck
  split <;> rename_i hfind <;> rw [hfind] at hcheck
  · exact exec_setSettings_of_owner filler hready (setSettingsOwner_of_error hcheck) rfl
  · obtain ⟨c, hok, rfl⟩ := hcheck
    split <;> rename_i hbusy <;> rw [← polarityBusy_iff] at hbusy
    · exact exec_setSettings_of_owner filler hready (setSettingsOwner_of_busy hok hbusy) rfl
    · exact ⟨c, rfl, c.emergencyStyle.eq_ite_code, rfl, c.polarityA.eq_ite_code, c.polarityB.eq_ite_code, rfl, rfl, rfl,
        eq_ite_axisOrderCode c.axisFirst, exec_setSettings_of_owner filler hready (setSettingsOwner_ok hok hbusy) rfl⟩

end Sys2Proof.Machine
end

section
/-! SUPPORT. Events and the interrupt line (chapter 11): the raised flags, the order of the eight flags, and the requests READ EVENTS and
CLEAR EVENTS. -/

namespace Sys2Proof.Machine

/-! ### Pending and enabled flags, and the interrupt output (R194, R196) -/

/-- Every bit of a byte is the bit of one of the eight flags (12.7). -/
theorem exists_event_of_bit {n : Nat} (hn : n < 8) : ∃ e : Event, e.bit = n := by
  interval_cases n
  exacts [⟨.restart, rfl⟩, ⟨.linkError, rfl⟩, ⟨.journalLost, rfl⟩, ⟨.journalThreshold, rfl⟩, ⟨.aHalted, rfl⟩, ⟨.aDrained, rfl⟩,
    ⟨.bHalted, rfl⟩, ⟨.bDrained, rfl⟩]

theorem Event.bit_lt (e : Event) : e.bit < 8 := by cases e <;> decide

theorem byte_ne_zero_iff_event {b : Byte} : b ≠ 0#8 ↔ ∃ e : Event, b.getLsbD e.bit = true := by
  constructor
  · intro hb
    by_contra hclear
    refine hb (BitVec.eq_of_getLsbD_eq fun n hn => ?_)
    obtain ⟨e, rfl⟩ := exists_event_of_bit hn
    simpa using not_exists.1 hclear e
  · rintro ⟨e, he⟩ rfl
    simp at he

/-- A bit of the pending set under the enable mask is a flag both pending and enabled. -/
theorem pending_and_mask_bit (s : State) (e : Event) : (s.events &&& s.settings.enableMask).getLsbD e.bit = true ↔
    s.isPending e = true ∧ s.settings.enableMask.getLsbD e.bit = true := by
  rw [BitVec.getLsbD_and, Bool.and_eq_true, State.isPending]

theorem irqLow_iff (s : State) : s.irqLow = true ↔
    s.power = .running ∧ ∃ e : Event, s.isPending e = true ∧ s.settings.enableMask.getLsbD e.bit = true := by
  simp only [State.irqLow, Bool.and_eq_true, beq_iff_eq, bne_iff_ne, byte_ne_zero_iff_event, pending_and_mask_bit]

/-- The flags a clear names go, and the others stay (R200). -/
theorem isPending_clear (s : State) (flags : Byte) (e : Event) :
    State.isPending { s with events := s.events &&& ~~~flags } e = (s.isPending e && !flags.getLsbD e.bit) := by
  simp [State.isPending, e.bit_lt]

/-! ### The order of the flags and the leading event (R198) -/

theorem codeGroups_code (g : GroupOrder) : codeGroups g.code = g.groups := by cases g <;> rfl

theorem groupFlags_eq_flags (first : Axis) (g : EventGroup) : groupFlags first g = g.flags first := by
  cases g with
  | axis => cases first <;> rfl
  | system => rfl
  | journal => rfl

/-- The list made of a group order's code and the axis order is the list of the settings. -/
theorem flatMap_groupFlags_eq_eventOrder (c : Settings) :
    (codeGroups c.groupOrder.code).flatMap (groupFlags c.axisFirst) = c.eventOrder := by
  rw [codeGroups_code, funext (groupFlags_eq_flags c.axisFirst), Settings.eventOrder]

/-- The group of a flag (R194). -/
def Event.group : Event → EventGroup
  | .restart | .linkError => .system
  | .journalLost | .journalThreshold => .journal
  | .aHalted | .aDrained | .bHalted | .bDrained => .axis

theorem Event.mem_flags_group (first : Axis) (e : Event) : e ∈ e.group.flags first := by
  cases first <;> cases e <;> decide

theorem GroupOrder.mem_groups (o : GroupOrder) (g : EventGroup) : g ∈ o.groups := by
  cases o <;> cases g <;> decide

/-- The order lists every flag, whatever the two orders are. -/
theorem mem_eventOrder (c : Settings) (e : Event) : e ∈ c.eventOrder :=
  List.mem_flatMap.2 ⟨e.group, c.groupOrder.mem_groups e.group, e.mem_flags_group c.axisFirst⟩

theorem leadingEvent_eq_none_iff (s : State) : s.leadingEvent = none ↔
    ∀ e, ¬(s.isPending e = true ∧ s.settings.enableMask.getLsbD e.bit = true) := by
  simp only [State.leadingEvent, List.find?_eq_none, pending_and_mask_bit, mem_eventOrder, true_imp_iff]

theorem leadingEvent_eq_some_iff (s : State) (e : Event) : s.leadingEvent = some e ↔
    (s.isPending e = true ∧ s.settings.enableMask.getLsbD e.bit = true) ∧
      ∃ pre post, s.settings.eventOrder = pre ++ e :: post ∧
        ∀ e' ∈ pre, ¬(s.isPending e' = true ∧ s.settings.enableMask.getLsbD e'.bit = true) := by
  simp only [State.leadingEvent, List.find?_eq_some_iff_append, Bool.not_eq_true', Bool.eq_false_iff, ne_eq, pending_and_mask_bit]

/-! ### READ EVENTS and CLEAR EVENTS (R199, R200) -/

theorem exec_readEvents {s : State} (filler : List Byte) (hready : s.linkReady = true) :
    exec (.readEvents filler) s = .next (s.answered (.readEvents filler) .ok s.eventReply) :=
  congrArg _ (takeRequest_of_owner (owner := readEventsOwner) (.readEvents filler) hready rfl rfl rfl)

theorem exec_clearEvents {s t : State} {flags : Byte} (filler : List Byte) (hready : s.linkReady = true)
    (ht : t = { s with events := s.events &&& ~~~flags }) :
    exec (.clearEvents flags filler) s = .next (t.answered (.clearEvents flags filler) .ok t.eventReply) := by
  subst ht
  exact congrArg _ (takeRequest_of_owner (owner := clearEventsOwner flags) (.clearEvents flags filler) hready rfl rfl rfl)

/-- Settles O36: the bit numbers by evaluation; the request as its owner's answer, the flags of its state bit by bit, and the interrupt
output by its equation. -/
theorem clearEventsClearsTheNamedFlags : Obligations.ClearEventsClearsTheNamedFlags := by
  refine ⟨rfl, rfl, fun s flags filler hready t ht => ⟨exec_clearEvents filler hready ht, fun e => ?_, irqLow_iff t⟩⟩
  subst ht
  exact isPending_clear s flags e

/-- Settles O37: the obligation's list is the order of the settings, which holds every flag, so the search through it finds the first
raised one. -/
theorem readEventsNamesTheLeadingEvent : Obligations.ReadEventsNamesTheLeadingEvent := by
  intro s order raised filler horder hraised
  rw [flatMap_groupFlags_eq_eventOrder] at horder
  subst horder
  simp only [hraised]
  exact ⟨leadingEvent_eq_none_iff s, leadingEvent_eq_some_iff s, exec_readEvents filler⟩

end Sys2Proof.Machine
end

section
/-! SUPPORT. What the axis engines can do (chapters 2 to 6): the changes of which every engine operation is made. -/

namespace Sys2Proof.Machine

/-! ### One axis and the other -/

theorem axis_eq_or_other (x y : Axis) : y = x ∨ y = x.other := by cases x <;> cases y <;> decide

theorem other_ne (x : Axis) : x.other ≠ x := by cases x <;> decide

/-- A law of one axis holds of both after a change of one, where it holds of the changed axis and held of the other. -/
theorem forall_axis_of_onAxis {P : AxisUnit → Prop} {s : State} {x : Axis} {f : AxisUnit → AxisUnit} (hx : P (f (s.axis x)))
    (hother : P (s.axis x.other)) (y : Axis) : P ((s.onAxis x f).axis y) := by
  obtain rfl | rfl := axis_eq_or_other x y
  · rwa [onAxis_axis]
  · rwa [onAxis_axis_other]

/-- The axis halts: it is HALTED, or it is STOPPING toward a halt (R105). -/
def AxisUnit.Halting (u : AxisUnit) : Prop :=
  u.state = .halted ∨ (u.state = .stopping ∧ ∀ sl ∈ u.slot, sl.pendingStop.after ≠ .proceed)

theorem emergencyLaw_iff (u : AxisUnit) : u.EmergencyLaw ↔ (u.lines.emergency = true → u.Halting) := Iff.rfl

theorem AxisUnit.Halting.state {u : AxisUnit} (h : u.Halting) : u.state = .halted ∨ u.state = .stopping := h.imp_right And.left

/-! ### The rates of a slot (R25, R53) -/

/-- The snapshot's rates lie in their range, and the interval in progress is no shorter than the greatest rate's. -/
def Slot.Rates (sl : Slot) : Prop := sl.snap.RangeLaw ∧ ∀ n ∈ sl.interval, 80 ≤ n

theorem intervalOf_ge {r : Nat} (hpos : 1 ≤ r) (hlimit : r ≤ Config.rateLimit) : 80 ≤ intervalOf r := by
  have hlimit' : r ≤ 200000 := hlimit
  have hclock : Config.clockHz = 16000000 := rfl
  rw [intervalOf, Nat.le_div_iff_mul_le (by omega)]
  omega

/-- The rate of every level lies in the range of R20. -/
theorem Snapshot.RangeLaw.interval_ge {p : Snapshot} (h : p.RangeLaw) (level : Nat) : 80 ≤ intervalOf (p.rate level) := by
  obtain ⟨hbase, -, -, hceiling, hlimit, -⟩ := h
  refine intervalOf_ge ?_ ((min_le_right _ _).trans hlimit)
  exact le_min (hbase.trans (Nat.le_add_right _ _)) (hbase.trans hceiling)

theorem Slot.Rates.beginInterval {sl : Slot} (h : sl.snap.RangeLaw) : sl.beginInterval.Rates :=
  ⟨h, fun _ hn => Option.some.inj hn ▸ h.interval_ge sl.level⟩

theorem Slot.Rates.rescale {sl : Slot} (h : sl.snap.RangeLaw) : sl.rescale.Rates := by
  refine ⟨h, fun n hn => ?_⟩
  obtain ⟨m, -, rfl⟩ := Option.map_eq_some_iff.1 hn
  exact h.interval_ge sl.level

/-- A new cruise rate not below the base rate keeps the snapshot in its range (R36, R37). -/
theorem Snapshot.RangeLaw.withCruise {p : Snapshot} (h : p.RangeLaw) {c ceiling : Nat} (hc : p.base ≤ c ∧ c ≤ Config.rateLimit)
    (hceiling : ceiling = p.ceiling ∨ ceiling = c) : Snapshot.RangeLaw { p.withCruise c with ceiling := ceiling } := by
  obtain ⟨hbase, -, -, hbelow, hlimit, hramp⟩ := h
  obtain rfl | rfl := hceiling
  · exact ⟨hbase, hc.1, hc.2, hbelow, hlimit, hramp⟩
  · exact ⟨hbase, hc.1, hc.2, hc.1, hc.2, hramp⟩

theorem Slot.Rates.retuneArmed {sl : Slot} (h : sl.Rates) {c : Nat} (hc : sl.snap.base ≤ c ∧ c ≤ Config.rateLimit) :
    (sl.retuneArmed c).Rates := ⟨h.1.withCruise hc (.inr rfl), h.2⟩

theorem Slot.Rates.retuneRunning {sl : Slot} (h : sl.Rates) {c : Nat} (hc : sl.snap.base ≤ c ∧ c ≤ Config.rateLimit) :
    (sl.retuneRunning c).Rates := by
  unfold Slot.retuneRunning
  dsimp only
  split_ifs
  · exact .rescale (h.1.withCruise hc (.inr rfl))
  · exact ⟨h.1.withCruise hc (.inl rfl), h.2⟩
  · exact .rescale (h.1.withCruise hc (.inr rfl))

/-- The phase advance keeps the snapshot in its range: the ceiling becomes the cruise rate at most (R30). -/
theorem Slot.advance_rangeLaw {sl : Slot} (h : sl.snap.RangeLaw) : sl.advance.snap.RangeLaw := by
  obtain ⟨hbase, hcruise, hlimit, -, -, hramp⟩ := id h
  unfold Slot.advance
  split <;> try exact h
  split_ifs
  · exact ⟨hbase, hcruise, hlimit, hcruise, hlimit, hramp⟩
  · exact h

/-! ### Changes within a current move -/

/-- One axis before and after a change within its current move: the same move goes on, in a state that holds it; the queue, the marks, the
lines, the reports and the counter are as they were; and the axis's own laws hold where they held. -/
structure AxisUnit.Within (u v : AxisUnit) : Prop where
  slots : ∃ sl sl', u.slot = some sl ∧ v.slot = some sl' ∧ sl'.move = sl.move
  holds : v.state.holdsMove = true
  queue : v.queue = u.queue
  marks : v.marks = u.marks
  lines : v.lines = u.lines
  reports : v.reports = u.reports
  position : v.position = u.position
  phase : u.PhaseLaw → v.PhaseLaw
  distance : u.DistanceLaw → v.DistanceLaw
  rate : u.RateLaw → v.RateLaw
  halting : u.Halting → v.Halting

/-- What a change that is no pulse keeps of a slot: its move, its distance, its count, and its rates in their range. -/
structure Slot.Continues (sl sl' : Slot) : Prop where
  move : sl'.move = sl.move
  distance : sl'.distance = sl.distance
  delivered : sl'.delivered = sl.delivered
  rates : sl.Rates → sl'.Rates

/-- A change of the slot that is no pulse, in a state of the axis that stays, is a change within the move. -/
theorem within_of_continues {u : AxisUnit} {sl sl' : Slot} (hslot : u.slot = some sl) (hcont : sl.Continues sl')
    (hholds : u.state.holdsMove = true)
    (hphase : u.PhaseLaw → AxisUnit.PhaseLaw { u with slot := some sl' })
    (hpulsing : u.state = .running → sl'.phase.pulsing = true → sl.phase.pulsing = true)
    (hafter : sl.pendingStop.after ≠ .proceed → sl'.pendingStop.after ≠ .proceed) :
    u.Within { u with slot := some sl' } where
  slots := ⟨sl, sl', hslot, rfl, hcont.move⟩
  holds := hholds
  queue := rfl
  marks := rfl
  lines := rfl
  reports := rfl
  position := rfl
  phase := hphase
  distance := by
    intro h z hz d hd
    obtain rfl : sl' = z := Option.some.inj hz
    obtain ⟨hlimit, harmed, hemit⟩ := h sl hslot d (hcont.distance ▸ hd)
    refine ⟨hlimit, fun hs => hcont.delivered ▸ harmed hs, fun he => hcont.delivered ▸ hemit ?_⟩
    simp only [AxisUnit.emitting, hslot, Bool.or_eq_true, Bool.and_eq_true, beq_iff_eq] at he ⊢
    exact he.imp_left fun h => ⟨h.1, hpulsing h.1 h.2⟩
  rate := by
    intro h z hz
    obtain rfl : sl' = z := Option.some.inj hz
    exact hcont.rates (h sl hslot)
  halting := by
    rintro (h | ⟨h, hstop⟩)
    · exact .inl h
    · exact .inr ⟨h, fun z hz => Option.some.inj hz ▸ hafter (hstop sl hslot)⟩

/-- A change of the slot that leaves phase, level and pending stop too. -/
theorem within_of_same_phase {u : AxisUnit} {sl sl' : Slot} (hslot : u.slot = some sl) (hcont : sl.Continues sl')
    (hholds : u.state.holdsMove = true) (hphase : sl'.phase = sl.phase) (hlevel : sl'.level = sl.level) (hstop : sl'.stop = sl.stop) :
    u.Within { u with slot := some sl' } := by
  refine within_of_continues hslot hcont hholds (fun h z hz => ?_) (fun _ => hphase ▸ id) ?_
  · obtain rfl : sl' = z := Option.some.inj hz
    simpa only [hphase, hlevel, hstop] using h sl hslot
  · simp only [Slot.pendingStop, hstop, imp_self]

/-- RETUNE of an ARMED move (R36). -/
theorem within_retuneArmed {u : AxisUnit} {sl : Slot} {c : Nat} (hslot : u.slot = some sl) (hstate : u.state = .armed)
    (hc : sl.snap.base ≤ c ∧ c ≤ Config.rateLimit) : u.Within { u with slot := some (sl.retuneArmed c) } :=
  within_of_same_phase hslot ⟨rfl, rfl, rfl, fun h => h.retuneArmed hc⟩ (by simp [hstate, AxisState.holdsMove]) rfl rfl rfl

/-- RETUNE of a RUNNING move leaves it in a phase that RETUNE acts in (R37). -/
theorem retuneRunning_eqs (sl : Slot) (c : Nat) : (sl.retuneRunning c).move = sl.move ∧ (sl.retuneRunning c).distance = sl.distance ∧
    (sl.retuneRunning c).delivered = sl.delivered ∧ (sl.retuneRunning c).stop = sl.stop ∧
    (sl.retuneRunning c).phase.retunable = true := by
  unfold Slot.retuneRunning
  dsimp only
  split_ifs <;> exact ⟨rfl, rfl, rfl, rfl, rfl⟩

theorem Phase.pulsing_of_retunable {p : Phase} (h : p.retunable = true) : p.pulsing = true := by revert h; cases p <;> decide

theorem within_retuneRunning {u : AxisUnit} {sl : Slot} {c : Nat} (hslot : u.slot = some sl) (hstate : u.state = .running)
    (hphase : sl.phase.retunable = true) (hc : sl.snap.base ≤ c ∧ c ≤ Config.rateLimit) :
    u.Within { u with slot := some (sl.retuneRunning c) } := by
  obtain ⟨hmove, hdist, hdel, hstop, hretunable⟩ := retuneRunning_eqs sl c
  refine within_of_continues hslot ⟨hmove, hdist, hdel, fun h => h.retuneRunning hc⟩ (by simp [hstate, AxisState.holdsMove])
    (fun h z hz => ?_) (fun _ _ => Phase.pulsing_of_retunable hphase) (by simp only [Slot.pendingStop, hstop, imp_self])
  obtain rfl : sl.retuneRunning c = z := Option.some.inj hz
  have hnone := ((h sl hslot).2.1 hstate).2
  simp [hstate, hstop, hnone, Phase.pulsing_of_retunable hretunable]

/-- A capture is noted in the slot (R62). -/
theorem within_capture {u : AxisUnit} {sl : Slot} (hslot : u.slot = some sl) (hholds : u.state.holdsMove = true) (n : Option Word) :
    u.Within { u with slot := some { sl with afterCapture := n } } :=
  within_of_same_phase hslot ⟨rfl, rfl, rfl, id⟩ hholds rfl rfl rfl

/-- The arm timer is loaded (R80). -/
theorem within_armTimer {u : AxisUnit} {sl : Slot} (hslot : u.slot = some sl) (hholds : u.state.holdsMove = true) (n : Option Nat) :
    u.Within { u with slot := some { sl with armTimer := n } } :=
  within_of_same_phase hslot ⟨rfl, rfl, rfl, id⟩ hholds rfl rfl rfl

/-- A pending stop takes another that is no weaker in its after-action (R94). -/
theorem within_stop {u : AxisUnit} {sl : Slot} {p : PendingStop} (hslot : u.slot = some sl) (hstate : u.state = .stopping)
    (hafter : sl.pendingStop.after ≠ .proceed → p.after ≠ .proceed) : u.Within { u with slot := some { sl with stop := some p } } := by
  refine within_of_continues hslot ⟨rfl, rfl, rfl, id⟩ (by simp [hstate, AxisState.holdsMove]) (fun h z hz => ?_)
    (fun hr => absurd hr (by simp [hstate])) hafter
  obtain rfl := Option.some.inj hz
  simp [hstate, ((h sl hslot).2.2 hstate).1]

theorem AfterAction.merge_eq_proceed {p r : AfterAction} (h : p.merge r = .proceed) : p = .proceed := by
  revert h; cases p <;> cases r <;> decide

/-- A move in a pulse phase begins its descent (R33). -/
theorem within_descend {u : AxisUnit} {sl : Slot} (r : PendingStop) (hslot : u.slot = some sl) (hstate : u.state = .running)
    (hpulsing : sl.phase.pulsing = true) : u.Within { u with slot := some (sl.descend r), state := .stopping } where
  slots := ⟨sl, sl.descend r, hslot, rfl, rfl⟩
  holds := rfl
  queue := rfl
  marks := rfl
  lines := rfl
  reports := rfl
  position := rfl
  phase := by
    rintro - z hz
    obtain rfl := Option.some.inj hz
    simp [Slot.descend, Slot.rescale]
  distance := by
    intro h z hz d hd
    obtain rfl := Option.some.inj hz
    obtain ⟨hlimit, -, hemit⟩ := h sl hslot d hd
    exact ⟨hlimit, nofun, fun _ => hemit (by simp [AxisUnit.emitting, hslot, hstate, hpulsing])⟩
  rate := by
    intro h z hz
    obtain rfl := Option.some.inj hz
    exact Slot.Rates.rescale (h sl hslot).1
  halting h := by simpa [hstate] using h.state

/-- An ARMED move starts to emit pulses (R50, step 5). -/
theorem within_startRamp {u : AxisUnit} {sl : Slot} (d : Direction) (hslot : u.slot = some sl) (hstate : u.state = .armed)
    (hdist : sl.distance ≠ some 0) : u.Within { u with state := .running, slot := some sl.startRamp, lastDirection := d } where
  slots := ⟨sl, sl.startRamp, hslot, rfl, rfl⟩
  holds := rfl
  queue := rfl
  marks := rfl
  lines := rfl
  reports := rfl
  position := rfl
  phase := by
    intro h z hz
    obtain rfl := Option.some.inj hz
    have hnone := ((h sl hslot).1 hstate).2.2
    have hphase : sl.startRamp.phase.pulsing = true := by
      simp only [Slot.startRamp, Slot.beginInterval]; split <;> rfl
    exact ⟨nofun, fun _ => ⟨.inl hphase, hnone⟩, nofun⟩
  distance := by
    intro h z hz n hn
    obtain rfl := Option.some.inj hz
    obtain ⟨hlimit, harmed, -⟩ := h sl hslot n hn
    have hpos : n ≠ 0 := by rintro rfl; exact hdist hn
    have hzero : sl.startRamp.delivered = 0#32 := harmed hstate
    exact ⟨hlimit, nofun, fun _ => by rw [hzero]; exact Nat.pos_of_ne_zero hpos⟩
  rate := by
    intro h z hz
    obtain rfl := Option.some.inj hz
    exact Slot.Rates.beginInterval (h sl hslot).1
  halting h := by simpa [hstate] using h.state

/-- An ARMED dwell starts (R64). -/
theorem within_startDwell {u : AxisUnit} {sl : Slot} (hslot : u.slot = some sl) (hstate : u.state = .armed) :
    u.Within { u with state := .running, slot := some sl.startDwell } where
  slots := ⟨sl, sl.startDwell, hslot, rfl, rfl⟩
  holds := rfl
  queue := rfl
  marks := rfl
  lines := rfl
  reports := rfl
  position := rfl
  phase := by
    intro h z hz
    obtain rfl := Option.some.inj hz
    exact ⟨nofun, fun _ => ⟨.inr rfl, ((h sl hslot).1 hstate).2.2⟩, nofun⟩
  distance := by
    intro h z hz n hn
    obtain rfl := Option.some.inj hz
    exact ⟨(h sl hslot n hn).1, nofun, nofun⟩
  rate := by
    intro h z hz
    obtain rfl := Option.some.inj hz
    exact h sl hslot
  halting h := by simpa [hstate] using h.state

/-! ### The update after a pulse as a change within the move (R28 to R34) -/

/-- What an update after a pulse leaves of a slot that goes on. -/
structure Slot.Updates (sl sl' : Slot) : Prop where
  move : sl'.move = sl.move
  distance : sl'.distance = sl.distance
  delivered : sl'.delivered = sl.delivered
  stop : sl'.stop = sl.stop
  snap : sl.snap.RangeLaw → sl'.snap.RangeLaw
  remains : ∀ d ∈ sl.distance, sl.delivered.toNat < d

theorem advance_eqs (sl : Slot) : sl.advance.move = sl.move ∧ sl.advance.distance = sl.distance ∧
    sl.advance.delivered = sl.delivered ∧ sl.advance.stop = sl.stop ∧ (sl.phase.pulsing = true → sl.advance.phase.pulsing = true) := by
  unfold Slot.advance
  split
  case h_1 => exact ⟨rfl, rfl, rfl, rfl, fun _ => by dsimp only; split <;> rfl⟩
  case h_2 hphase => split_ifs <;> exact ⟨rfl, rfl, rfl, rfl, fun _ => by simp [hphase, Phase.pulsing]⟩
  case h_3 => exact ⟨rfl, rfl, rfl, rfl, fun _ => by dsimp only; split <;> rfl⟩
  all_goals exact ⟨rfl, rfl, rfl, rfl, id⟩

theorem remaining_eq_some_iff {sl : Slot} {r : Nat} : sl.remaining = some r ↔ ∃ d ∈ sl.distance, d - sl.delivered.toNat = r := by
  simp [Slot.remaining]

/-- A RUNNING move that goes on stays in a pulse phase. -/
theorem updateRunning_goes {sl sl' : Slot} (h : sl.updateRunning = .goes sl') :
    sl.Updates sl' ∧ (sl.phase.pulsing = true → sl'.phase.pulsing = true) := by
  obtain ⟨hmove, hdist, hdel, hstop, hphase⟩ := advance_eqs sl
  have advances (hrem : ∀ d ∈ sl.distance, sl.delivered.toNat < d) :
      sl.Updates sl.advance ∧ (sl.phase.pulsing = true → sl.advance.phase.pulsing = true) :=
    ⟨⟨hmove, hdist, hdel, hstop, Slot.advance_rangeLaw, hrem⟩, hphase⟩
  unfold Slot.updateRunning at h
  split at h
  case h_1 r hr =>
    obtain ⟨d, hd, hdr⟩ := remaining_eq_some_iff.1 hr
    have hrem (hpos : r ≠ 0) : ∀ e ∈ sl.distance, sl.delivered.toNat < e := fun e he => by
      obtain rfl : d = e := Option.some.inj (hd.symm.trans he)
      omega
    split_ifs at h with hzero htest
    · obtain rfl := AfterPulse.goes.inj h
      exact ⟨⟨rfl, rfl, rfl, rfl, id, hrem hzero⟩, fun _ => rfl⟩
    · obtain rfl := AfterPulse.goes.inj h
      exact advances (hrem hzero)
  case h_2 hr =>
    have hrem : ∀ d ∈ sl.distance, sl.delivered.toNat < d := by simp_all [Slot.remaining]
    split_ifs at h <;> obtain rfl := AfterPulse.goes.inj h
    · exact advances hrem
    · exact ⟨⟨rfl, rfl, rfl, rfl, id, hrem⟩, id⟩

/-- A STOPPING move that goes on stays in its phase. -/
theorem updateStopping_goes {sl sl' : Slot} (h : sl.updateStopping = .goes sl') : sl.Updates sl' ∧ sl'.phase = sl.phase := by
  unfold Slot.updateStopping at h
  split_ifs at h with hend
  obtain rfl := AfterPulse.goes.inj h
  refine ⟨⟨rfl, rfl, rfl, rfl, id, fun d hd => ?_⟩, rfl⟩
  have hrem : sl.remaining ≠ some 0 := fun hr => hend (.inl hr)
  have : d - sl.delivered.toNat ≠ 0 := fun h0 => hrem (remaining_eq_some_iff.2 ⟨d, hd, h0⟩)
  omega

/-- A pulse after which the move goes on is a change within it. -/
theorem within_pulse {u : AxisUnit} {sl sl' : Slot} (hslot : u.slot = some sl) (hstate : u.state = .running ∨ u.state = .stopping)
    (hupdate : sl.countPulse.Updates sl') (hrunning : u.state = .running → sl'.phase.pulsing = true)
    (hstopping : u.state = .stopping → sl'.phase = sl.phase) :
    u.Within { u with slot := some sl'.beginInterval } where
  slots := ⟨sl, sl'.beginInterval, hslot, rfl, hupdate.move⟩
  holds := by obtain h | h := hstate <;> simp [h, AxisState.holdsMove]
  queue := rfl
  marks := rfl
  lines := rfl
  reports := rfl
  position := rfl
  phase := by
    intro h z hz
    obtain rfl := Option.some.inj hz
    have hstop : sl'.beginInterval.stop = sl.stop := hupdate.stop
    obtain ⟨-, hrun, hst⟩ := h sl hslot
    refine ⟨fun ha => ?_, fun hr => ⟨.inl (hrunning hr), hstop ▸ (hrun hr).2⟩,
      fun hs => ⟨(hstopping hs).trans (hst hs).1, hstop ▸ (hst hs).2⟩⟩
    obtain h | h := hstate <;> simp [h] at ha
  distance := by
    intro h z hz d hd
    obtain rfl := Option.some.inj hz
    have hd' : d ∈ sl.distance := by
      have : sl'.beginInterval.distance = sl.distance := hupdate.distance
      rwa [this] at hd
    have hdel : sl'.beginInterval.delivered = sl.countPulse.delivered := hupdate.delivered
    refine ⟨(h sl hslot d hd').1, fun ha => ?_, fun _ => hdel ▸ hupdate.remains d hd'⟩
    obtain h | h := hstate <;> simp [h] at ha
  rate := by
    intro h z hz
    obtain rfl := Option.some.inj hz
    exact Slot.Rates.beginInterval (hupdate.snap (h sl hslot).1)
  halting := by
    rintro (h | ⟨h, hstop⟩)
    · exact .inl h
    · refine .inr ⟨h, fun z hz => ?_⟩
      obtain rfl := Option.some.inj hz
      have hpending : sl'.beginInterval.pendingStop = sl.pendingStop := by
        simp only [Slot.pendingStop, Slot.beginInterval, hupdate.stop, Slot.countPulse]
      rw [hpending]
      exact hstop sl hslot

end Sys2Proof.Machine
end

section
/-! SUPPORT. The operations of the axis engines (chapters 3 to 6) as chains of changes. -/

namespace Sys2Proof.Machine

/-! ### The changes -/

/-- The kinds of a terminal record (R65). -/
def RecordKind.terminal (k : RecordKind) : Prop := k = .done ∨ k = .stopped ∨ k = .refused ∨ k = .interrupted

/-- A resolved distance is within the limit where the move's value is one its kind admits (R2, R46). -/
def Move.Reaches (m : Move) (target : Option Direction × Option Nat) : Prop :=
  ∀ d ∈ target.2, m.kind.admits m.value = true → d ≤ Config.distanceLimit

/-- What an engine can do to the part at once. -/
inductive Change : State → State → Prop
  /-- An event is set. -/
  | event (s : State) (e : Event) : Change s (s.setEvent e)
  /-- An ordinary record is offered (R142). -/
  | offer (s : State) (e : Entry) : Change s (s.offerRecord e)
  /-- The GAP record is written where the admission rule allows it (R147). -/
  | gap (s : State) (hroom : s.journal.admits = true) : Change s s.writeGap
  /-- The step output and the counter of an axis move (R55, R58). -/
  | counter (s : State) (x : Axis) (n : Nat) (p : Word) :
      Change s ((s.onAxis x (fun u => { u with stepEdges := n })).setCounter x p)
  /-- Marks leave the table (R118). -/
  | marks (s : State) (x : Axis) (ms : List Mark) (hsub : ms.Sublist (s.axis x).marks) : Change s (s.setMarks x ms)
  /-- A queue is emptied, and its axis is no longer BLOCKED (R18). -/
  | emptied (s : State) (x : Axis) : Change s ((s.setQueue x []).unblockFlushed x)
  /-- The current move of an axis goes on. -/
  | within (s : State) (x : Axis) (f : AxisUnit → AxisUnit) (h : (s.axis x).Within (f (s.axis x))) : Change s (s.onAxis x f)
  /-- The current move of an axis ends with its terminal record, and the axis is IDLE or HALTED; where it halts, HALTED (R65, R67). -/
  | ends (s : State) (x : Axis) (sl : Slot) (e : Entry) (st : AxisState) (hslot : (s.axis x).slot = some sl)
      (hentry : e.axis = some x ∧ e.tag = some sl.move.tag ∧ e.kind.terminal)
      (hstate : st = .halted ∨ (st = .idle ∧ ¬(s.axis x).Halting)) :
      Change s (((s.convertReservation e).setSlot x none).setAxisState x st)
  /-- An axis without a current move halts, off the wait list if BLOCKED (R89, R104). -/
  | halts (s : State) (x : Axis) (hstate : (s.axis x).state = .idle ∨ (s.axis x).state = .blocked) :
      Change s ((if (s.axis x).state = .blocked then s.leaveWaitList x else s).setAxisState x .halted)
  /-- An IDLE axis with a queue is refused its reservation and waits (R144). -/
  | joins (s : State) (x : Axis) (hidle : (s.axis x).state = .idle) (hqueue : (s.axis x).queue ≠ [])
      (hfull : s.journal.admits = false) : Change s (s.joinWaitList x)
  /-- A head is granted its reservation and becomes the current move of an axis that is IDLE or at the head of the wait list (R43, R146). -/
  | admitted (s : State) (x : Axis) (w : List Axis) (m : Move) (rest : List Move) (target : Option Direction × Option Nat)
      (hroom : s.journal.admits = true) (hqueue : (s.axis x).queue = m :: rest)
      (hwait : ((s.axis x).state = .idle ∧ s.journal.waitList = w) ∨ s.journal.waitList = x :: w) (htarget : m.Reaches target) :
      Change s ((State.grantReservation { s with journal := { s.journal with waitList := w } }).installMove x rest
        (Slot.admitted m s.profiles[m.profile] target))
  /-- A waiting axis without a queued record leaves the list, in a state that no run reaches (R41). -/
  | lapses (s : State) (x : Axis) (w : List Axis) (hwait : s.journal.waitList = x :: w) (hqueue : (s.axis x).queue = []) :
      Change s { s with journal := { s.journal with waitList := w } }

/-- A chain of changes. -/
abbrev State.Changes (s t : State) : Prop := Relation.ReflTransGen Change s t

theorem Change.changes {s t : State} (h : Change s t) : s.Changes t := .single h

/-- What every change keeps, and a chain of nothing and of two chains keeps, every chain keeps. -/
theorem State.Changes.lift {P : State → State → Prop} (hrefl : ∀ s, P s s) (htrans : ∀ {s t u}, P s t → P t u → P s u)
    (hchange : ∀ {s t}, Change s t → P s t) {s t : State} (h : s.Changes t) : P s t := by
  induction h with
  | refl => exact hrefl s
  | tail _ hstep ih => exact htrans ih (hchange hstep)

/-- A law that every change keeps, a chain keeps. -/
theorem State.Changes.keeps {P : State → Prop} (hchange : ∀ {s t}, Change s t → P s → P t) {s t : State} (h : s.Changes t) :
    P s → P t :=
  h.lift (P := fun s t => P s → P t) (fun _ => id) (fun h k => k ∘ h) hchange

/-! ### Flushes, endings and stops -/

theorem flushQueue_changes (s : State) (x : Axis) (cause : Cause) : s.Changes (s.flushQueue x cause) := by
  unfold State.flushQueue
  split
  · exact .refl
  · exact (Change.emptied s x).changes.trans (Change.offer _ _).changes

/-- Records and an axis's slot do not meet: a record is written alike before and after the slot changes. -/
theorem writeRecord_setSlot (s : State) (x : Axis) (sl : Option Slot) (e : Entry) :
    (s.setSlot x sl).writeRecord e = (s.writeRecord e).setSlot x sl := by
  rw [writeRecord_eq, writeRecord_eq]; cases x <;> rfl

theorem dropRecord_setSlot (s : State) (x : Axis) (sl : Option Slot) : (s.setSlot x sl).dropRecord = s.dropRecord.setSlot x sl := by
  rw [dropRecord_eq, dropRecord_eq]; cases x <;> rfl

theorem offerRecord_setSlot (s : State) (x : Axis) (sl : Option Slot) (e : Entry) :
    (s.setSlot x sl).offerRecord e = (s.offerRecord e).setSlot x sl := by
  simp only [State.offerRecord, setSlot_journal]
  split
  · exact writeRecord_setSlot s x sl e
  · exact dropRecord_setSlot s x sl

theorem convertReservation_setSlot (s : State) (x : Axis) (sl : Option Slot) (e : Entry) :
    (s.setSlot x sl).convertReservation e = (s.convertReservation e).setSlot x sl := by
  rw [convertReservation_eq, convertReservation_eq, ← writeRecord_setSlot]; cases x <;> rfl

theorem setSlot_setSlot (s : State) (x : Axis) (sl sl' : Option Slot) : (s.setSlot x sl).setSlot x sl' = s.setSlot x sl' := by
  cases x <;> rfl

/-- A pulse's last count reaches the slot and the terminal record together (R55, R65): the slot is written off with the record, so the
ending is a chain of changes from the part whose slot has the count of before. -/
theorem endMove_counted_changes {s : State} {x : Axis} {sl sl' : Slot} {kind : RecordKind} (cause : Cause) {after : AfterAction}
    (hslot : (s.axis x).slot = some sl) (hmove : sl'.move = sl.move) (hkind : kind.terminal)
    (hafter : (s.axis x).Halting → after ≠ .proceed) : s.Changes ((s.setSlot x (some sl')).endMove x kind cause after) := by
  have ends (e : Entry) (st : AxisState) (he : e.axis = some x ∧ e.tag = some sl'.move.tag ∧ e.kind.terminal)
      (hst : st = .halted ∨ (st = .idle ∧ ¬(s.axis x).Halting)) :
      s.Changes ((((s.setSlot x (some sl')).convertReservation e).setSlot x none).setAxisState x st) := by
    rw [convertReservation_setSlot, setSlot_setSlot]
    exact (Change.ends s x sl e st hslot (hmove ▸ he) hst).changes
  simp only [State.endMove, setSlot_axis]
  cases after with
  | proceed =>
    simp only [State.moveOn]
    have hidle := ends (Entry.terminal x sl' (s.axis x).position kind cause false) .idle ⟨rfl, rfl, hkind⟩
      (.inr ⟨rfl, fun h => hafter h rfl⟩)
    split
    · exact hidle.trans (Change.event _ _).changes
    · exact hidle
  | halt =>
    exact (ends (Entry.terminal x sl' (s.axis x).position kind cause true) .halted ⟨rfl, rfl, hkind⟩ (.inl rfl)).trans
      (Change.event _ _).changes
  | flush =>
    exact ((ends (Entry.terminal x sl' (s.axis x).position kind cause true) .halted ⟨rfl, rfl, hkind⟩ (.inl rfl)).trans
      (flushQueue_changes _ x .hostStop)).trans (Change.event _ _).changes

theorem setSlot_self {s : State} {x : Axis} {sl : Option Slot} (hslot : (s.axis x).slot = sl) : s.setSlot x sl = s := by
  subst hslot; cases x <;> rfl

theorem endMove_changes {s : State} {x : Axis} {kind : RecordKind} (cause : Cause) {after : AfterAction} (hkind : kind.terminal)
    (hafter : (s.axis x).Halting → after ≠ .proceed) : s.Changes (s.endMove x kind cause after) := by
  cases hslot : (s.axis x).slot with
  | none => simp only [State.endMove, hslot]; exact .refl
  | some sl =>
    have h := endMove_counted_changes cause hslot rfl hkind hafter
    rwa [setSlot_self hslot] at h

/-- A move that is refused halts its axis. -/
theorem refuse_changes (s : State) (x : Axis) (cause : Cause) : s.Changes (s.endMove x .refused cause .halt) :=
  endMove_changes cause (.inr (.inr (.inl rfl))) fun _ => by decide

theorem Cause.stopKind_terminal (c : Cause) : c.stopKind.terminal := by
  unfold Cause.stopKind; split
  · exact .inl rfl
  · exact .inr (.inl rfl)

/-- An axis that is neither HALTED nor STOPPING does not halt. -/
theorem not_halting {u : AxisUnit} {st : AxisState} (hstate : u.state = st) (hne : st ≠ .halted ∧ st ≠ .stopping) : ¬u.Halting :=
  fun h => h.state.elim (hstate ▸ hne.1) (hstate ▸ hne.2)

theorem haltWithoutMove_changes {s : State} {x : Axis} (cause : Cause) (flush : Bool)
    (hstate : (s.axis x).state = .idle ∨ (s.axis x).state = .blocked) : s.Changes (s.haltWithoutMove x cause flush) := by
  have hrecord := (Change.halts s x hstate).changes.trans (Change.offer _ (Entry.halt x cause (s.axis x).position)).changes
  unfold State.haltWithoutMove
  cases flush with
  | false => exact hrecord.trans (Change.event _ _).changes
  | true => exact (hrecord.trans (flushQueue_changes _ x .hostStop)).trans (Change.event _ _).changes

theorem setSlot_changes {s : State} {x : Axis} {sl : Option Slot} (h : (s.axis x).Within { s.axis x with slot := sl }) :
    s.Changes (s.setSlot x sl) :=
  (Change.within s x (fun u => { u with slot := sl }) h).changes

theorem takeStop_changes (s : State) (x : Axis) (r : PendingStop) : s.Changes (s.takeStop x r) := by
  cases hslot : (s.axis x).slot with
  | none => simp only [State.takeStop, hslot]; exact .refl
  | some sl =>
  cases hstate : (s.axis x).state <;> simp only [State.takeStop, hslot, hstate]
  case armed =>
    exact endMove_changes _ (Cause.stopKind_terminal _) fun h => absurd h (not_halting hstate ⟨nofun, nofun⟩)
  case running =>
    split
    next hdescends =>
      rw [Bool.and_eq_true] at hdescends
      rw [State.setSlot, State.setAxisState, onAxis_onAxis]
      exact (Change.within s x _ (within_descend r hslot hstate hdescends.1)).changes
    next =>
      exact endMove_changes _ (Cause.stopKind_terminal _) fun h => absurd h (not_halting hstate ⟨nofun, nofun⟩)
  case stopping =>
    have hafter : sl.pendingStop.after ≠ .proceed → (sl.pendingStop.merge r).after ≠ .proceed := mt AfterAction.merge_eq_proceed
    split
    · refine endMove_changes _ (Cause.stopKind_terminal _) fun h => ?_
      obtain hhalted | ⟨-, hpending⟩ := h
      · simp [hstate] at hhalted
      · exact hafter (hpending sl hslot)
    · exact setSlot_changes (within_stop hslot hstate hafter)
  all_goals exact .refl

theorem hostStop_changes (s : State) (x : Axis) (style : Style) (after : AfterAction) : s.Changes (s.hostStop x style after) := by
  cases hstate : (s.axis x).state <;> simp only [State.hostStop, hstate]
  case idle | blocked =>
    split
    · exact .refl
    · exact haltWithoutMove_changes _ _ (by simp [hstate])
  case armed | running | stopping => exact takeStop_changes s x _
  case halted =>
    split
    · exact flushQueue_changes s x _
    · exact .refl

theorem emergencyStop_changes (s : State) (x : Axis) : s.Changes (s.emergencyStop x) := by
  cases hstate : (s.axis x).state <;> simp only [State.emergencyStop, hstate]
  case idle | blocked => exact haltWithoutMove_changes _ _ (by simp [hstate])
  case armed | running | stopping => exact takeStop_changes s x _
  case halted => exact .refl

theorem limitStop_changes (s : State) (x : Axis) (side : Direction) : s.Changes (s.limitStop x side) := by
  unfold State.limitStop
  split
  · exact .refl
  · split
    · exact takeStop_changes s x _
    · exact .refl

/-! ### Home and starts -/

theorem setCounter_changes (s : State) (x : Axis) (p : Word) : s.Changes (s.setCounter x p) := by
  have h : s.onAxis x (fun u => { u with stepEdges := (s.axis x).stepEdges }) = s := by cases x <;> rfl
  have hchange := (Change.counter s x (s.axis x).stepEdges p).changes
  rwa [h] at hchange

section
variable {s : State} {x : Axis} {sl : Slot} (hslot : (s.axis x).slot = some sl)
include hslot

theorem captureOnce_changes (hholds : (s.axis x).state.holdsMove = true) : s.Changes (s.captureOnce x sl) := by
  unfold State.captureOnce
  split
  · exact (setSlot_changes (within_capture hslot hholds _)).trans (setCounter_changes _ x _)
  · exact .refl

/-- A capture leaves the state of the axis, and the move that stands in it. -/
theorem captureOnce_axis : ((s.captureOnce x sl).axis x).state = (s.axis x).state ∧
    ∃ n, ((s.captureOnce x sl).axis x).slot = some { sl with afterCapture := n } := by
  unfold State.captureOnce
  split
  · cases x <;> exact ⟨rfl, _, rfl⟩
  · exact ⟨rfl, sl.afterCapture, hslot⟩

end

theorem emitting_state {u : AxisUnit} (h : u.emitting = true) :
    ∃ sl, u.slot = some sl ∧ ((u.state = .running ∧ sl.phase.pulsing = true) ∨ u.state = .stopping) := by
  unfold AxisUnit.emitting at h
  split at h
  next => cases h
  next sl hslot => exact ⟨sl, hslot, by simpa using h⟩

theorem holdsMove_of_emitting {u : AxisUnit} (h : u.emitting = true) : u.state.holdsMove = true := by
  obtain ⟨sl, -, ⟨hstate, -⟩ | hstate⟩ := emitting_state h <;> simp [hstate, AxisState.holdsMove]

theorem homeFound_changes (s : State) (x : Axis) : s.Changes (s.homeFound x) := by
  cases hslot : (s.axis x).slot with
  | none => simp only [State.homeFound, hslot]; exact .refl
  | some sl =>
  simp only [State.homeFound, hslot]
  split_ifs with hhome hstopping
  · have hcapture := captureOnce_changes hslot (holdsMove_of_emitting hhome.2)
    obtain ⟨hstate, n, hslot'⟩ := captureOnce_axis hslot
    refine hcapture.trans ?_
    simp only [State.mergeHomeFound, hslot']
    refine setSlot_changes (within_stop hslot' (hstate.trans hstopping) ?_)
    exact id
  · exact (captureOnce_changes hslot (holdsMove_of_emitting hhome.2)).trans (takeStop_changes _ x _)
  · exact .refl

/-- A start of an ARMED move (R50). -/
theorem startMove_changes {s : State} {x : Axis} (harmed : (s.axis x).state = .armed) : s.Changes (s.startMove x) := by
  have hnot : ∀ {after : AfterAction}, (s.axis x).Halting → after ≠ .proceed :=
    fun h => absurd h (not_halting harmed ⟨nofun, nofun⟩)
  cases hslot : (s.axis x).slot with
  | none => simp only [State.startMove, hslot]; exact .refl
  | some sl =>
  cases hcheck : startCheck (s.axis x).lines sl with
  | dwell =>
    rw [startMove_of_dwell hslot hcheck]
    exact (Change.within s x _ (within_startDwell hslot harmed)).changes
  | zeroDistance =>
    rw [startMove_of_zeroDistance hslot hcheck]
    exact endMove_changes _ (.inl rfl) hnot
  | homeFound =>
    obtain ⟨hstate, -⟩ := captureOnce_axis hslot
    rw [startMove_of_homeFound hslot hcheck, ← captureOnce_eq_capturedOnce]
    exact (captureOnce_changes hslot (by simp [harmed, AxisState.holdsMove])).trans
      (endMove_changes _ (.inl rfl) fun h => absurd h (not_halting (hstate.trans harmed) ⟨nofun, nofun⟩))
  | limitActive =>
    rw [startMove_of_limitActive hslot hcheck]
    exact refuse_changes s x _
  | run =>
    have hdist : sl.distance ≠ some 0 := by
      intro h0
      by_cases hdwell : sl.move.kind = .dwell
      · simp [startCheck_dwell _ hdwell] at hcheck
      · simp [startCheck_zeroDistance _ hdwell h0] at hcheck
    simp only [State.startMove, hslot, hcheck]
    exact (Change.within s x _ (within_startRamp _ hslot harmed hdist)).changes

/-! ### Pairs and admission -/

theorem decidePair_changes {s : State} (slA slB : Slot) (hA : s.a.state = .armed) (hB : s.b.state = .armed) :
    s.Changes (s.decidePair slA slB) := by
  have hrefused (causeA causeB : Cause) :
      s.Changes ((s.endMove .A .refused causeA .halt).endMove .B .refused causeB .halt) :=
    (refuse_changes s .A causeA).trans (refuse_changes _ .B causeB)
  by_cases hpair : slA.move.pair = slB.move.pair
  case neg => rw [decidePair_of_mismatch s hpair]; exact hrefused _ _
  by_cases hlimit : startCheck s.a.lines slA = .limitActive ∨ startCheck s.b.lines slB = .limitActive
  case pos => rw [decidePair_of_limited s hpair hlimit]; exact hrefused _ _
  obtain ⟨hclearA, hclearB⟩ := not_or.1 hlimit
  have hother : ((s.startMove .A).axis .B).state = .armed := (congrArg AxisUnit.state (startMove_axis_other s .A)).trans hB
  rw [decidePair_of_clear s hpair hclearA hclearB]
  exact (startMove_changes (x := .A) hA).trans (startMove_changes hother)

theorem armed_of_pairWaiting {u : AxisUnit} {sl : Slot} (h : u.pairWaiting = some sl) : u.state = .armed := by
  unfold AxisUnit.pairWaiting at h
  split_ifs at h with hstate
  exact hstate

section
variable {s : State} {x : Axis} {sl : Slot} (hslot : (s.axis x).slot = some sl) (harmed : (s.axis x).state = .armed)
include hslot harmed

theorem loadArmTimer_changes : s.Changes (s.loadArmTimer x sl) :=
  setSlot_changes (within_armTimer hslot (by simp [harmed, AxisState.holdsMove]) _)

theorem arrivePair_changes : s.Changes (s.arrivePair x sl) := by
  unfold State.arrivePair
  split
  next => exact loadArmTimer_changes hslot harmed
  next other hother =>
    have harmed' := armed_of_pairWaiting hother
    cases x
    · exact decidePair_changes sl other harmed harmed'
    · exact decidePair_changes other sl harmed' harmed

end

theorem resolveTarget_le {target position : Word} {dir : Option Direction} {d : Nat}
    (h : resolveTarget target position = .ok (dir, some d)) : d ≤ Config.distanceLimit := by
  have hlimit : Config.distanceLimit = 16777215 := rfl
  unfold resolveTarget at h
  dsimp only at h
  split_ifs at h with hplus hminus <;> simp only [Except.ok.injEq, Prod.mk.injEq, Option.some.injEq] at h <;> omega

/-- A resolved target is within reach (R2, R46). -/
theorem resolve_reaches {s : State} {x : Axis} {m : Move} {target : Option Direction × Option Nat}
    (h : s.resolve x m = .ok target) : m.Reaches target := by
  obtain ⟨dir, dist⟩ := target
  rintro d hd hadmits
  obtain rfl : dist = some d := hd
  have hlimit : Config.distanceLimit = 16777215 := rfl
  cases hkind : m.kind <;> simp only [State.resolve, hkind] at h
  case relative | home =>
    simp only [Except.ok.injEq, Prod.mk.injEq, Option.some.injEq] at h
    simp only [hkind, MoveKind.admits, decide_eq_true_eq] at hadmits
    omega
  case run | dwell => simp at h
  case absolute => exact resolveTarget_le h
  case station =>
    split at h
    · cases h
    · exact resolveTarget_le h

/-- The granted path of an admission, for an axis that is IDLE or at the head of the wait list (R43, R146). -/
theorem admitHead_changes {s : State} {x : Axis} {w : List Axis} (hroom : s.journal.admits = true)
    (hwait : ((s.axis x).state = .idle ∧ s.journal.waitList = w) ∨ s.journal.waitList = x :: w) :
    s.Changes (State.admitHead { s with journal := { s.journal with waitList := w } } x) := by
  have haxis : State.axis { s with journal := { s.journal with waitList := w } } x = s.axis x := by cases x <;> rfl
  cases hqueue : (s.axis x).queue with
  | nil =>
    simp only [State.admitHead, haxis, hqueue]
    obtain ⟨-, rfl⟩ | hwait := hwait
    · exact .refl
    · exact (Change.lapses s x w hwait hqueue).changes
  | cons m rest =>
  have installs (target : Option Direction × Option Nat) (htarget : m.Reaches target) :=
    (Change.admitted s x w m rest target hroom hqueue hwait htarget).changes
  have hslot (t : State) (sl : Slot) : ((t.installMove x rest sl).axis x).slot = some sl := by cases x <;> rfl
  have harmed (t : State) (sl : Slot) : ((t.installMove x rest sl).axis x).state = .armed := by cases x <;> rfl
  simp only [State.admitHead, haxis, hqueue]
  split
  next cause _ =>
    exact (installs (none, none) nofun).trans (refuse_changes _ x _)
  next target hresolve =>
    refine (installs target (resolve_reaches hresolve)).trans ?_
    cases m.start with
    | now => exact startMove_changes (harmed _ _)
    | line => exact loadArmTimer_changes (hslot _ _) (harmed _ _)
    | pair => exact arrivePair_changes (hslot _ _) (harmed _ _)

theorem attemptAdmission_changes (s : State) (x : Axis) : s.Changes (s.attemptAdmission x) := by
  unfold State.attemptAdmission
  split_ifs with hattempt hroom
  · exact admitHead_changes hroom (.inl ⟨hattempt.1, rfl⟩)
  · exact (Change.joins s x hattempt.1 hattempt.2 (Bool.eq_false_iff.2 hroom)).changes
  · exact .refl

/-! ### Pulses and timers -/

theorem offerMarks_changes (x : Axis) (tag : Half) (pulses : Word) (ms : List Mark) (s : State) :
    s.Changes (s.offerMarks x tag pulses ms) := by
  induction ms generalizing s with
  | nil => exact .refl
  | cons m rest ih => exact (Change.offer s _).changes.trans (ih _)

theorem fireMarks_changes (s : State) (x : Axis) (sl : Slot) (d : Direction) : s.Changes (s.fireMarks x sl d) :=
  (Change.marks s x _ List.filter_sublist).changes.trans (offerMarks_changes x _ _ _ _)

theorem offerMarks_setSlot (x y : Axis) (tag : Half) (pulses : Word) (ms : List Mark) (s : State) (sl : Option Slot) :
    (s.setSlot y sl).offerMarks x tag pulses ms = (s.offerMarks x tag pulses ms).setSlot y sl := by
  induction ms generalizing s with
  | nil => rfl
  | cons m rest ih => rw [State.offerMarks, offerRecord_setSlot, ih, State.offerMarks]

/-- The marks fire alike before and after the slot changes. -/
theorem fireMarks_setSlot (s : State) (x : Axis) (sl : Slot) (d : Direction) (z : Option Slot) :
    (s.setSlot x z).fireMarks x sl d = (s.fireMarks x sl d).setSlot x z := by
  have hmarks (ms : List Mark) : (s.setSlot x z).setMarks x ms = (s.setMarks x ms).setSlot x z := by cases x <;> rfl
  simp only [State.fireMarks, setSlot_axis, hmarks, offerMarks_setSlot]

/-- Steps 1 and 2 of a pulse: the edge and the counter (R55). -/
def State.pulseMoves (s : State) (x : Axis) (d : Direction) : State :=
  (s.onAxis x (fun u => { u with stepEdges := u.stepEdges + 1 })).setCounter x (stepCounter (s.axis x).position d)

theorem stepOut_eq (s : State) (x : Axis) (sl : Slot) (d : Direction) :
    s.stepOut x sl d = (s.pulseMoves x d).setSlot x (some sl.countPulse) := by cases x <;> rfl

/-- The part that a pulse leaves before its update, its slot still with the count of before. -/
def State.pulseMarked (s : State) (x : Axis) (sl : Slot) (d : Direction) : State :=
  (s.pulseMoves x d).fireMarks x sl.countPulse d

theorem pulseMarked_changes (s : State) (x : Axis) (sl : Slot) (d : Direction) : s.Changes (s.pulseMarked x sl d) := by
  have h : s.pulseMoves x d = (s.onAxis x (fun u => { u with stepEdges := (s.axis x).stepEdges + 1 })).setCounter x
      (stepCounter (s.axis x).position d) := by cases x <;> rfl
  refine Relation.ReflTransGen.trans ?_ (fireMarks_changes _ x sl.countPulse d)
  rw [h]
  exact (Change.counter s x _ _).changes

/-- A pulse before its update leaves the state of the axis and the move in its slot. -/
theorem pulseMarked_axis (s : State) (x : Axis) (sl : Slot) (d : Direction) :
    ((s.pulseMarked x sl d).axis x).state = (s.axis x).state ∧ ((s.pulseMarked x sl d).axis x).slot = (s.axis x).slot := by
  simp only [State.pulseMarked, State.fireMarks, offerMarks_axis, setMarks_axis]
  cases x <;> exact ⟨rfl, rfl⟩

theorem emitPulse_eq {s : State} {x : Axis} {sl : Slot} {d : Direction} (hslot : (s.axis x).slot = some sl)
    (hemitting : (s.axis x).emitting = true) (hdir : sl.direction = some d) :
    s.emitPulse x = ((s.pulseMarked x sl d).setSlot x (some sl.countPulse)).afterPulse x sl.countPulse := by
  simp only [State.emitPulse, hslot, hemitting, hdir, if_true, stepOut_eq, fireMarks_setSlot, State.pulseMarked]

/-- The update after a pulse: the counted move ends, or it goes on in its new slot. -/
theorem afterPulse_changes {s : State} {x : Axis} {sl : Slot} (hslot : (s.axis x).slot = some sl)
    (hemitting : (s.axis x).emitting = true) :
    s.Changes ((s.setSlot x (some sl.countPulse)).afterPulse x sl.countPulse) := by
  obtain ⟨z, hz, hstate⟩ := emitting_state hemitting
  obtain rfl : sl = z := Option.some.inj (hslot.symm.trans hz)
  unfold State.afterPulse
  rw [setSlot_axis]
  split
  next hstopping =>
    split
    next =>
      refine endMove_counted_changes _ hslot (sl' := sl.countPulse) rfl (Cause.stopKind_terminal _) fun h => ?_
      obtain hhalted | ⟨-, hpending⟩ := h
      · simp_all
      · exact hpending sl hslot
    next sl' hgoes =>
      obtain ⟨hupdate, hphase⟩ := updateStopping_goes hgoes
      rw [setSlot_setSlot]
      exact setSlot_changes (within_pulse hslot (.inr hstopping) hupdate (fun hr => by simp_all) fun _ => hphase)
  next hnot =>
    obtain ⟨hrunning, hpulsing⟩ := hstate.resolve_right hnot
    split
    next =>
      have hnone : ∀ {after : AfterAction}, (s.axis x).Halting → after ≠ .proceed :=
        fun h => absurd h (not_halting hrunning ⟨nofun, nofun⟩)
      unfold State.endByCount
      split
      · exact endMove_counted_changes _ hslot (sl' := sl.countPulse) rfl (.inr (.inl rfl)) hnone
      · exact endMove_counted_changes _ hslot (sl' := sl.countPulse) rfl (.inl rfl) hnone
    next sl' hgoes =>
      obtain ⟨hupdate, hphase⟩ := updateRunning_goes hgoes
      rw [setSlot_setSlot]
      exact setSlot_changes (within_pulse hslot (.inl hrunning) hupdate (fun _ => hphase hpulsing) fun hs => by simp_all)

theorem emitPulse_changes (s : State) (x : Axis) : s.Changes (s.emitPulse x) := by
  cases hslot : (s.axis x).slot with
  | none => simp only [State.emitPulse, hslot]; exact .refl
  | some sl =>
  by_cases hemitting : (s.axis x).emitting = true
  case neg => simp only [State.emitPulse, hslot, if_neg hemitting]; exact .refl
  cases hdir : sl.direction with
  | none => simp only [State.emitPulse, hslot, hemitting, hdir, if_true]; exact .refl
  | some d =>
    obtain ⟨hstate', hslot'⟩ := pulseMarked_axis s x sl d
    have hemitting' : ((s.pulseMarked x sl d).axis x).emitting = true := by
      simpa only [AxisUnit.emitting, hstate', hslot'] using hemitting
    rw [emitPulse_eq hslot hemitting hdir]
    exact (pulseMarked_changes s x sl d).trans (afterPulse_changes (hslot'.trans hslot) hemitting')

theorem dwellEnds_changes (s : State) (x : Axis) : s.Changes (s.dwellEnds x) := by
  unfold State.dwellEnds
  split
  · exact .refl
  · split_ifs with h
    · exact endMove_changes _ (.inl rfl) fun hh => absurd hh (not_halting h.1 ⟨nofun, nofun⟩)
    · exact .refl

theorem armEnds_changes (s : State) (x : Axis) : s.Changes (s.armEnds x) := by
  unfold State.armEnds
  split
  · exact .refl
  · split_ifs
    · exact refuse_changes s x _
    · exact .refl

theorem syncEdge_changes (s : State) (x : Axis) : s.Changes (s.syncEdge x) := by
  unfold State.syncEdge
  split
  · exact .refl
  · split_ifs with h
    · exact startMove_changes h.1
    · exact .refl

/-! ### The freed-space service (R146) -/

/-- The claims of a journal: the wait list and the lost count. -/
def Journal.claims (j : Journal) : List Axis × Nat := (j.waitList, j.lost)

theorem endMove_claims (s : State) (x : Axis) (kind : RecordKind) (cause : Cause) {after : AfterAction} (hafter : after ≠ .flush) :
    (s.endMove x kind cause after).journal.claims = s.journal.claims := by
  have hconvert (e : Entry) : (s.convertReservation e).journal.claims = s.journal.claims := by
    rw [convertReservation_eq, writeRecord_eq]; rfl
  unfold State.endMove
  split
  · rfl
  · cases after with
    | proceed => simp only [State.moveOn]; split <;> simp [hconvert]
    | halt => simp [State.moveOn, hconvert]
    | flush => exact absurd rfl hafter

theorem captureOnce_claims (s : State) (x : Axis) (sl : Slot) : (s.captureOnce x sl).journal.claims = s.journal.claims := by
  unfold State.captureOnce; split <;> simp [State.capture, State.setCounter]

theorem startMove_claims (s : State) (x : Axis) : (s.startMove x).journal.claims = s.journal.claims := by
  cases hslot : (s.axis x).slot with
  | none => simp only [State.startMove, hslot]
  | some sl =>
    cases hcheck : startCheck (s.axis x).lines sl with
    | dwell => rw [startMove_of_dwell hslot hcheck, onAxis_journal]
    | zeroDistance => rw [startMove_of_zeroDistance hslot hcheck, endMove_claims s x _ _ (by decide)]
    | homeFound =>
      rw [startMove_of_homeFound hslot hcheck, ← captureOnce_eq_capturedOnce, endMove_claims _ x _ _ (by decide), captureOnce_claims]
    | limitActive => rw [startMove_of_limitActive hslot hcheck, endMove_claims s x _ _ (by decide)]
    | run => simp only [State.startMove, hslot, hcheck, onAxis_journal]

theorem decidePair_claims (s : State) (slA slB : Slot) : (s.decidePair slA slB).journal.claims = s.journal.claims := by
  have hrefused (causeA causeB : Cause) :
      ((s.endMove .A .refused causeA .halt).endMove .B .refused causeB .halt).journal.claims = s.journal.claims :=
    (endMove_claims _ .B _ _ (by decide)).trans (endMove_claims s .A _ _ (by decide))
  by_cases hpair : slA.move.pair = slB.move.pair
  case neg => rw [decidePair_of_mismatch s hpair, hrefused]
  by_cases hlimit : startCheck s.a.lines slA = .limitActive ∨ startCheck s.b.lines slB = .limitActive
  case pos => rw [decidePair_of_limited s hpair hlimit, hrefused]
  obtain ⟨hA, hB⟩ := not_or.1 hlimit
  rw [decidePair_of_clear s hpair hA hB, startMove_claims, startMove_claims]

theorem arrivePair_claims (s : State) (x : Axis) (sl : Slot) : (s.arrivePair x sl).journal.claims = s.journal.claims := by
  unfold State.arrivePair
  split
  · exact congrArg Journal.claims (setSlot_journal s x _)
  · cases x <;> exact decidePair_claims s _ _

/-- An admitted head leaves the wait list and the lost count as they were. -/
theorem admitHead_claims (s : State) (x : Axis) : (s.admitHead x).journal.claims = s.journal.claims := by
  have hinstalled (rest : List Move) (sl : Slot) :
      (s.grantReservation.installMove x rest sl).journal.claims = s.journal.claims := by
    simp [State.installMove, Journal.claims]
  unfold State.admitHead
  split
  · rfl
  next m rest _ =>
    split
    · exact (endMove_claims _ x _ _ (by decide)).trans (hinstalled _ _)
    · cases m.start with
      | now => exact (startMove_claims _ x).trans (hinstalled _ _)
      | line => exact (congrArg Journal.claims (setSlot_journal _ x _)).trans (hinstalled _ _)
      | pair => exact (arrivePair_claims _ x _).trans (hinstalled _ _)

/-- A grant from the head of the wait list leaves the rest of it, and the lost count (R44, R146). -/
theorem grantHead_claims {s : State} {x : Axis} {rest : List Axis} (hwait : s.journal.waitList = x :: rest) :
    (s.grantHead x).journal.waitList = rest ∧ (s.grantHead x).journal.lost = s.journal.lost := by
  have h := admitHead_claims { s with journal := { s.journal with waitList := s.journal.waitList.tail } } x
  rw [Journal.claims, Journal.claims, Prod.mk.injEq] at h
  exact ⟨h.1.trans (congrArg List.tail hwait), h.2⟩

theorem serveWaiting_changes {xs : List Axis} {s : State} (hwait : s.journal.waitList = xs) :
    s.Changes (State.serveWaiting xs s) := by
  induction xs generalizing s with
  | nil => exact .refl
  | cons x rest ih =>
    unfold State.serveWaiting
    split
    next hroom =>
      have htail : s.journal.waitList = x :: s.journal.waitList.tail := by rw [hwait]; rfl
      exact (admitHead_changes hroom (.inr htail)).trans (ih (grantHead_claims hwait).1)
    next => exact .refl

theorem writeGap_waitList (s : State) : s.writeGap.journal.waitList = s.journal.waitList := by simp [State.writeGap]

theorem serveFreedSpace_changes (s : State) : s.Changes s.serveFreedSpace := by
  unfold State.serveFreedSpace
  split_ifs with hlost hroom
  · exact serveWaiting_changes rfl
  · exact (Change.gap s hroom).changes.trans (serveWaiting_changes (writeGap_waitList s))
  · exact .refl

end Sys2Proof.Machine
end

section
/-! SUPPORT. The laws of the axes and their claims (chapters 3, 5 and 8), kept by every change of an engine. -/

namespace Sys2Proof.Machine

/-! ### What every change keeps -/

theorem Change.kept {s t : State} (h : Change s t) : s.Kept t := by
  cases h with
  | event e => exact setEvent_kept s e
  | offer e => exact offerRecord_kept s e
  | gap => exact writeGap_kept s
  | counter x n p => exact (onAxis_kept s x _ rfl rfl).trans (setCounter_kept _ x p)
  | marks x ms => exact setMarks_kept s x ms
  | emptied x => exact (setQueue_kept s x []).trans (unblockFlushed_kept _ x)
  | within x f h => exact onAxis_kept s x f h.position h.reports
  | ends x sl e st => exact ((convertReservation_kept s e).trans (setSlot_kept _ x none)).trans (setAxisState_kept _ x st)
  | halts x =>
    refine State.Kept.trans ?_ (setAxisState_kept _ x .halted)
    split
    · exact leaveWaitList_kept s x
    · exact .refl s
  | joins x => exact joinWaitList_kept s x
  | admitted x w m rest target =>
    have hwait : s.Kept { s with journal := { s.journal with waitList := w } } :=
      ⟨rfl, rfl, rfl, rfl, rfl, rfl, rfl, rfl, rfl, rfl, rfl, List.prefix_rfl, id⟩
    exact (hwait.trans (grantReservation_kept _)).trans (installMove_kept _ x rest _)
  | lapses x w => exact ⟨rfl, rfl, rfl, rfl, rfl, rfl, rfl, rfl, rfl, rfl, rfl, List.prefix_rfl, id⟩

theorem State.Changes.kept {s t : State} (h : s.Changes t) : s.Kept t := h.lift .refl .trans Change.kept

/-! ### The laws of the axes and of the claims, an axis at a time -/

/-- The laws of the axes and their claims but for the last, that a claim waits only at 126 or more, which the freed-space service
restores at its end. -/
structure State.CoreLaws (s : State) : Prop where
  slot : ∀ y, (s.axis y).SlotLaw
  phase : ∀ y, (s.axis y).PhaseLaw
  blocked : ∀ y, (s.axis y).BlockedLaw
  reservation : s.ReservationLaw
  nodup : s.journal.waitList.Nodup
  waits : ∀ y, y ∈ s.journal.waitList ↔ (s.axis y).state = .blocked
  capacity : s.journal.CapacityLaw

theorem forall_axis {P : Axis → Prop} : (∀ y, P y) ↔ P .A ∧ P .B :=
  ⟨fun h => ⟨h .A, h .B⟩, fun h y => by cases y <;> [exact h.1; exact h.2]⟩

theorem engineLaws_iff (s : State) : s.EngineLaws ↔ s.CoreLaws ∧ s.journal.ClaimLaw := by
  constructor
  · rintro ⟨hsa, hsb, hpa, hpb, hba, hbb, hres, ⟨hnodup, hwa, hwb⟩, hcap, hclaim⟩
    exact ⟨⟨forall_axis.2 ⟨hsa, hsb⟩, forall_axis.2 ⟨hpa, hpb⟩, forall_axis.2 ⟨hba, hbb⟩, hres, hnodup,
      forall_axis.2 ⟨hwa, hwb⟩, hcap⟩, hclaim⟩
  · rintro ⟨⟨hslot, hphase, hblocked, hres, hnodup, hwaits, hcap⟩, hclaim⟩
    exact ⟨hslot .A, hslot .B, hphase .A, hphase .B, hblocked .A, hblocked .B, hres, ⟨hnodup, hwaits .A, hwaits .B⟩, hcap, hclaim⟩

/-- The number of moves that an axis holds. -/
def AxisUnit.moveCount (u : AxisUnit) : Nat := u.slot.toList.length

theorem moves_eq (s : State) (x : Axis) : s.moves = (s.axis x).moveCount + (s.axis x.other).moveCount := by
  cases x
  · rfl
  · exact Nat.add_comm ..

theorem moveCount_of_slot {u : AxisUnit} {sl : Option Slot} (h : u.slot = sl) : u.moveCount = if sl.isSome then 1 else 0 := by
  rw [AxisUnit.moveCount, h]; cases sl <;> rfl

/-- A part whose axes, claims and journal's room are those of a lawful part is lawful. -/
theorem State.CoreLaws.of_same_axes {s t : State} (h : s.CoreLaws) (haxis : ∀ y, t.axis y = s.axis y)
    (hreserved : t.journal.reserved = s.journal.reserved) (hwait : t.journal.waitList = s.journal.waitList)
    (hcap : t.journal.CapacityLaw) : t.CoreLaws where
  slot y := haxis y ▸ h.slot y
  phase y := haxis y ▸ h.phase y
  blocked y := haxis y ▸ h.blocked y
  reservation := by
    have ha := haxis .A
    have hb := haxis .B
    simp only [axis_A, axis_B] at ha hb
    simpa only [State.ReservationLaw, State.moves, hreserved, ha, hb] using h.reservation
  nodup := hwait ▸ h.nodup
  waits y := by rw [hwait, haxis y]; exact h.waits y
  capacity := hcap

/-- A change of one axis that leaves whether it has a move and whether it is BLOCKED. -/
theorem State.CoreLaws.onAxis {s : State} (h : s.CoreLaws) {x : Axis} {f : AxisUnit → AxisUnit}
    (hslot : (f (s.axis x)).SlotLaw) (hphase : (f (s.axis x)).PhaseLaw) (hblocked : (f (s.axis x)).BlockedLaw)
    (hcount : (f (s.axis x)).moveCount = (s.axis x).moveCount)
    (hstate : (f (s.axis x)).state = .blocked ↔ (s.axis x).state = .blocked) : (s.onAxis x f).CoreLaws where
  slot := forall_axis_of_onAxis (P := AxisUnit.SlotLaw) hslot (h.slot _)
  phase := forall_axis_of_onAxis (P := AxisUnit.PhaseLaw) hphase (h.phase _)
  blocked := forall_axis_of_onAxis (P := AxisUnit.BlockedLaw) hblocked (h.blocked _)
  reservation := by
    have hres := h.reservation
    simp only [State.ReservationLaw, moves_eq _ x, onAxis_journal, onAxis_axis, onAxis_axis_other, hcount] at hres ⊢
    exact hres
  nodup := by rw [onAxis_journal]; exact h.nodup
  waits y := by
    rw [onAxis_journal]
    obtain rfl | rfl := axis_eq_or_other x y
    · rw [onAxis_axis, hstate]; exact h.waits _
    · rw [onAxis_axis_other]; exact h.waits _
  capacity := by rw [onAxis_journal]; exact h.capacity

/-- An axis whose move leaves it or that takes none enters a state without a move. -/
theorem slotLaw_of_none {u : AxisUnit} (hslot : u.slot = none) (hstate : u.state.holdsMove = false) : u.SlotLaw := by
  rw [AxisUnit.SlotLaw, hslot, hstate]; rfl

theorem phaseLaw_of_none {u : AxisUnit} (hslot : u.slot = none) : u.PhaseLaw := by
  intro sl hsl
  rw [hslot] at hsl
  cases hsl

theorem blockedLaw_of_ne {u : AxisUnit} (h : u.state ≠ .blocked) : u.BlockedLaw := fun hb => absurd hb h

theorem State.CoreLaws.slot_none {s : State} (h : s.CoreLaws) {x : Axis} (hstate : (s.axis x).state.holdsMove = false) :
    (s.axis x).slot = none := by
  have := h.slot x
  rwa [AxisUnit.SlotLaw, hstate, Option.isSome_eq_false_iff, Option.isNone_iff_eq_none] at this

theorem State.CoreLaws.holdsMove {s : State} (h : s.CoreLaws) {x : Axis} {sl : Slot} (hslot : (s.axis x).slot = some sl) :
    (s.axis x).state.holdsMove = true := by
  have := h.slot x
  rwa [AxisUnit.SlotLaw, hslot, eq_comm] at this

theorem ne_blocked_of_holdsMove {st : AxisState} (h : st.holdsMove = true) : st ≠ .blocked := by rintro rfl; cases h

/-! ### The journal's room (R134, R149) -/

/-- A total of at most 126 is within the capacity, whatever the newest record is. -/
theorem capacityLaw_of_le {j : Journal} (h : j.total ≤ Config.admissionLimit) : j.CapacityLaw :=
  ⟨h.trans (by decide), fun hlt => absurd h (Nat.not_le.2 hlt)⟩

theorem total_writeRecord (s : State) (e : Entry) : (s.writeRecord e).journal.total = s.journal.total + 1 := by
  simp only [Journal.total, writeRecord_records, writeRecord_reserved, List.length_append, List.length_singleton]
  omega

theorem admits_iff_total (j : Journal) : j.admits = true ↔ j.total + 1 ≤ Config.admissionLimit := decide_eq_true_iff

theorem capacityLaw_writeRecord {s : State} (e : Entry) (h : s.journal.admits = true) : (s.writeRecord e).journal.CapacityLaw :=
  capacityLaw_of_le (by rw [total_writeRecord]; exact (admits_iff_total _).1 h)

theorem dropRecord_journal (s : State) :
    s.dropRecord.journal = { s.journal with lost := min (s.journal.lost + 1) Config.countLimit } := by
  rw [dropRecord_eq]; rfl

theorem writeGap_journal (s : State) : s.writeGap.journal =
    { s.journal with records := s.journal.records ++ [⟨s.journal.seq, Entry.gap s.journal.lost⟩], seq := s.journal.seq + 1#16, lost := 0 } := by
  rw [State.writeGap, writeRecord_eq]; rfl

theorem convertReservation_journal (s : State) (e : Entry) : (s.convertReservation e).journal =
    { s.journal with
      records := s.journal.records ++ [⟨s.journal.seq, e⟩]
      seq := s.journal.seq + 1#16
      reserved := s.journal.reserved - 1 } := by
  rw [convertReservation_eq, writeRecord_eq]; rfl

/-! ### Each change -/

theorem offerRecord_coreLaws {s : State} (e : Entry) (h : s.CoreLaws) : (s.offerRecord e).CoreLaws := by
  simp only [State.offerRecord]
  split
  next hroom =>
    exact h.of_same_axes (writeRecord_axis s e) (writeRecord_reserved s e) (writeRecord_waitList s e) (capacityLaw_writeRecord e hroom)
  next =>
    refine h.of_same_axes (dropRecord_axis s) ?_ ?_ ?_ <;> rw [dropRecord_journal]
    exact h.capacity

theorem writeGap_coreLaws {s : State} (hroom : s.journal.admits = true) (h : s.CoreLaws) : s.writeGap.CoreLaws := by
  refine h.of_same_axes (fun y => ?_) ?_ ?_ ?_
  · rw [State.writeGap, writeRecord_axis]; cases y <;> rfl
  · rw [writeGap_journal]
  · rw [writeGap_journal]
  · exact capacityLaw_writeRecord (s := { s with journal := { s.journal with lost := 0 } }) _ hroom

/-- An axis leaves the wait list where it was BLOCKED, for a state without a move (R18, R89, R104). -/
theorem leaveWaitList_coreLaws {s : State} {x : Axis} {st : AxisState} (hst : st.holdsMove = false ∧ st ≠ .blocked)
    (hold : (s.axis x).state.holdsMove = false) (h : s.CoreLaws) :
    ((if (s.axis x).state = .blocked then s.leaveWaitList x else s).setAxisState x st).CoreLaws := by
  have hnone := h.slot_none hold
  have hslot : AxisUnit.SlotLaw { s.axis x with state := st } := slotLaw_of_none hnone hst.1
  have hphase : AxisUnit.PhaseLaw { s.axis x with state := st } := phaseLaw_of_none hnone
  have hblocked : AxisUnit.BlockedLaw { s.axis x with state := st } := blockedLaw_of_ne hst.2
  split
  next hwas =>
    have hres := h.reservation
    rw [State.ReservationLaw, moves_eq _ x] at hres
    refine ⟨forall_axis_of_onAxis (P := AxisUnit.SlotLaw) ?_ ?_, forall_axis_of_onAxis (P := AxisUnit.PhaseLaw) ?_ ?_,
      forall_axis_of_onAxis (P := AxisUnit.BlockedLaw) ?_ ?_, ?_, ?_, fun y => ?_, ?_⟩
    case refine_7 => rw [State.ReservationLaw, moves_eq _ x]; simpa [AxisUnit.moveCount] using hres
    case refine_8 => simpa using h.nodup.filter _
    case refine_9 =>
      obtain rfl | rfl := axis_eq_or_other x y
      · simp [hst.2]
      · simpa [other_ne] using h.waits x.other
    case refine_10 => simp only [setAxisState_journal, leaveWaitList_journal]; exact h.capacity
    all_goals rw [leaveWaitList_axis]
    exacts [hslot, h.slot _, hphase, h.phase _, hblocked, h.blocked _]
  next hwas =>
    refine h.onAxis hslot hphase hblocked rfl ?_
    simp [hst.2, hwas]

theorem holdsMove_eq_false {st : AxisState} (h : st = .idle ∨ st = .blocked ∨ st = .halted) : st.holdsMove = false := by
  obtain rfl | rfl | rfl := h <;> rfl

/-- The queue of an axis changes where the axis is not BLOCKED, or keeps a record (R41). -/
theorem setQueue_coreLaws {s : State} {x : Axis} {q : List Move} (hq : (s.axis x).state = .blocked → q ≠ []) (h : s.CoreLaws) :
    (s.setQueue x q).CoreLaws :=
  h.onAxis (f := fun u => { u with queue := q }) (h.slot x) (h.phase x) hq rfl .rfl

/-- A BLOCKED axis whose queue is emptied leaves the wait list (R18). -/
theorem emptied_coreLaws {s : State} (x : Axis) (h : s.CoreLaws) : ((s.setQueue x []).unblockFlushed x).CoreLaws := by
  unfold State.unblockFlushed
  rw [setQueue_axis]
  split
  next hblocked =>
    have hleft := leaveWaitList_coreLaws (s := s) (x := x) (st := .idle) ⟨rfl, nofun⟩ (holdsMove_eq_false (.inr (.inl hblocked))) h
    rw [if_pos hblocked] at hleft
    have hempty := setQueue_coreLaws (x := x) (q := []) (by simp) hleft
    have hcomm : ((s.setQueue x []).leaveWaitList x).setAxisState x .idle = ((s.leaveWaitList x).setAxisState x .idle).setQueue x [] := by
      cases x <;> rfl
    rwa [hcomm]
  next hblocked => exact setQueue_coreLaws (fun hb => absurd hb hblocked) h

theorem within_coreLaws {s : State} {x : Axis} {f : AxisUnit → AxisUnit} (hwithin : (s.axis x).Within (f (s.axis x)))
    (h : s.CoreLaws) : (s.onAxis x f).CoreLaws := by
  obtain ⟨sl, sl', hslot, hslot', -⟩ := hwithin.slots
  have hne := ne_blocked_of_holdsMove hwithin.holds
  refine h.onAxis ?_ (hwithin.phase (h.phase x)) (blockedLaw_of_ne hne) ?_ ?_
  · rw [AxisUnit.SlotLaw, hslot', hwithin.holds]; rfl
  · rw [moveCount_of_slot hslot, moveCount_of_slot hslot']; rfl
  · simp [hne, ne_blocked_of_holdsMove (h.holdsMove hslot)]

/-- An ending turns the reservation into its record, so the total stays (R140, R141). -/
theorem total_convertReservation {s : State} (e : Entry) (h : 0 < s.journal.reserved) :
    (s.convertReservation e).journal.total = s.journal.total := by
  rw [convertReservation_journal]
  simp only [Journal.total, List.length_append, List.length_singleton]
  omega

theorem State.CoreLaws.reserved_eq {s : State} (h : s.CoreLaws) (x : Axis) :
    s.journal.reserved = (s.axis x).moveCount + (s.axis x.other).moveCount := h.reservation.trans (moves_eq s x)

theorem State.CoreLaws.reserved_pos {s : State} (h : s.CoreLaws) {x : Axis} {sl : Slot} (hslot : (s.axis x).slot = some sl) :
    0 < s.journal.reserved := by
  rw [h.reserved_eq x, moveCount_of_slot hslot]
  simp only [Option.isSome_some, if_true]
  omega

/-- Where something is reserved, the total is at most 126. -/
theorem State.CoreLaws.total_le {s : State} (h : s.CoreLaws) (hpos : 0 < s.journal.reserved) : s.journal.total ≤ Config.admissionLimit := by
  by_contra hlt
  have := (h.capacity.2 (Nat.not_le.1 hlt)).2
  omega

theorem ends_coreLaws {s : State} {x : Axis} {sl : Slot} (e : Entry) {st : AxisState} (hslot : (s.axis x).slot = some sl)
    (hst : st.holdsMove = false ∧ st ≠ .blocked) (h : s.CoreLaws) :
    (((s.convertReservation e).setSlot x none).setAxisState x st).CoreLaws := by
  have hpos := h.reserved_pos hslot
  have hreserved := h.reserved_eq x
  rw [moveCount_of_slot hslot] at hreserved
  simp only [Option.isSome_some, if_true] at hreserved
  have hne := ne_blocked_of_holdsMove (h.holdsMove hslot)
  rw [State.setSlot, State.setAxisState, onAxis_onAxis]
  refine ⟨forall_axis_of_onAxis (P := AxisUnit.SlotLaw) ?_ ?_, forall_axis_of_onAxis (P := AxisUnit.PhaseLaw) ?_ ?_,
    forall_axis_of_onAxis (P := AxisUnit.BlockedLaw) ?_ ?_, ?_, ?_, fun y => ?_, ?_⟩
  case refine_1 => exact slotLaw_of_none rfl hst.1
  case refine_3 => exact phaseLaw_of_none rfl
  case refine_5 => exact blockedLaw_of_ne hst.2
  case refine_7 =>
    rw [State.ReservationLaw, moves_eq _ x, onAxis_journal, convertReservation_journal, onAxis_axis, onAxis_axis_other,
      moveCount_of_slot (sl := none) rfl, convertReservation_axis]
    simp only [Option.isSome_none, Bool.false_eq_true, if_false]
    omega
  case refine_8 => rw [onAxis_journal, convertReservation_journal]; exact h.nodup
  case refine_9 =>
    rw [onAxis_journal, convertReservation_journal]
    obtain rfl | rfl := axis_eq_or_other x y
    · simpa [hst.2, hne] using h.waits y
    · simpa using h.waits x.other
  case refine_10 =>
    rw [onAxis_journal]
    exact capacityLaw_of_le (by rw [total_convertReservation e hpos]; exact h.total_le hpos)
  all_goals rw [convertReservation_axis]
  exacts [h.slot _, h.phase _, h.blocked _]

theorem joinWaitList_coreLaws {s : State} {x : Axis} (hidle : (s.axis x).state = .idle) (hqueue : (s.axis x).queue ≠ [])
    (h : s.CoreLaws) : (s.joinWaitList x).CoreLaws := by
  have hnone := h.slot_none (holdsMove_eq_false (.inl hidle))
  have haxis (y : Axis) : State.axis { s with journal := { s.journal with waitList := s.journal.waitList ++ [x] } } y = s.axis y := by
    cases y <;> rfl
  have hnotin : x ∉ s.journal.waitList := by rw [h.waits, hidle]; nofun
  unfold State.joinWaitList
  refine ⟨forall_axis_of_onAxis (P := AxisUnit.SlotLaw) ?_ ?_, forall_axis_of_onAxis (P := AxisUnit.PhaseLaw) ?_ ?_,
    forall_axis_of_onAxis (P := AxisUnit.BlockedLaw) ?_ ?_, ?_, ?_, fun y => ?_, ?_⟩
  case refine_1 => exact slotLaw_of_none ((congrArg AxisUnit.slot (haxis x)).trans hnone) rfl
  case refine_3 => exact phaseLaw_of_none ((congrArg AxisUnit.slot (haxis x)).trans hnone)
  case refine_5 => exact fun _ => by rw [haxis]; exact hqueue
  case refine_7 =>
    have hres := h.reserved_eq x
    rw [State.ReservationLaw, moves_eq _ x]
    simpa [AxisUnit.moveCount, haxis] using hres
  case refine_8 =>
    simp only [setAxisState_journal, ← List.concat_eq_append]
    exact List.Nodup.concat hnotin h.nodup
  case refine_9 =>
    obtain rfl | rfl := axis_eq_or_other x y
    · simp
    · simpa [haxis, other_ne] using h.waits x.other
  case refine_10 => simp only [setAxisState_journal]; exact h.capacity
  all_goals rw [haxis]
  exacts [h.slot _, h.phase _, h.blocked _]

/-- A granted head: the reservation, the move and the ARMED state come together (R140, R144). -/
theorem admitted_coreLaws {s : State} {x : Axis} {w : List Axis} {m : Move} (rest : List Move) (p : Profile)
    (target : Option Direction × Option Nat) (hroom : s.journal.admits = true)
    (hwait : ((s.axis x).state = .idle ∧ s.journal.waitList = w) ∨ s.journal.waitList = x :: w) (h : s.CoreLaws) :
    ((State.grantReservation { s with journal := { s.journal with waitList := w } }).installMove x rest
      (Slot.admitted m p target)).CoreLaws := by
  have haxis (y : Axis) : State.axis (State.grantReservation { s with journal := { s.journal with waitList := w } }) y = s.axis y := by
    cases y <;> rfl
  have hold : (s.axis x).state.holdsMove = false := by
    obtain ⟨hidle, -⟩ | hhead := hwait
    · exact holdsMove_eq_false (.inl hidle)
    · exact holdsMove_eq_false (.inr (.inl ((h.waits x).1 (by simp [hhead]))))
  have hnodup : w.Nodup ∧ x ∉ w ∧ ∀ y, y ≠ x → (y ∈ w ↔ y ∈ s.journal.waitList) := by
    have hn := h.nodup
    obtain ⟨hidle, rfl⟩ | hhead := hwait
    · exact ⟨hn, by rw [h.waits, hidle]; nofun, fun _ _ => .rfl⟩
    · rw [hhead, List.nodup_cons] at hn
      exact ⟨hn.2, hn.1, fun y hy => by simp [hhead, hy]⟩
  obtain ⟨hn, hx, hothers⟩ := hnodup
  have hres := h.reserved_eq x
  rw [moveCount_of_slot (h.slot_none hold)] at hres
  unfold State.installMove
  refine ⟨forall_axis_of_onAxis (P := AxisUnit.SlotLaw) rfl ?_, forall_axis_of_onAxis (P := AxisUnit.PhaseLaw) ?_ ?_,
    forall_axis_of_onAxis (P := AxisUnit.BlockedLaw) nofun ?_, ?_, ?_, fun y => ?_, ?_⟩
  case refine_2 =>
    intro sl hsl
    obtain rfl := Option.some.inj hsl
    exact ⟨fun _ => ⟨rfl, rfl, rfl⟩, nofun, nofun⟩
  case refine_5 =>
    rw [State.ReservationLaw, moves_eq _ x, onAxis_journal, onAxis_axis, onAxis_axis_other, haxis x.other,
      moveCount_of_slot (sl := some _) rfl]
    simp only [grantReservation_journal, Option.isSome_none, Bool.false_eq_true, if_false, Option.isSome_some, if_true] at hres ⊢
    omega
  case refine_6 => rw [onAxis_journal]; exact hn
  case refine_7 =>
    rw [onAxis_journal]
    obtain rfl | rfl := axis_eq_or_other x y
    · simpa using hx
    · simpa [haxis] using (hothers x.other (other_ne x)).trans (h.waits x.other)
  case refine_8 =>
    rw [onAxis_journal]
    refine capacityLaw_of_le ?_
    have htotal := (admits_iff_total _).1 hroom
    simp only [Journal.total, grantReservation_journal] at htotal ⊢
    omega
  all_goals rw [haxis]
  exacts [h.slot _, h.phase _, h.blocked _]

theorem Change.coreLaws {s t : State} (hchange : Change s t) (h : s.CoreLaws) : t.CoreLaws := by
  cases hchange with
  | event e => exact h.of_same_axes (setEvent_axis s e) rfl rfl h.capacity
  | offer e => exact offerRecord_coreLaws e h
  | gap hroom => exact writeGap_coreLaws hroom h
  | counter x n p =>
    have hedges : (s.onAxis x (fun u => { u with stepEdges := n })).CoreLaws := h.onAxis (h.slot x) (h.phase x) (h.blocked x) rfl .rfl
    have hcounter := hedges.onAxis (x := x) (f := fun u => { u with position := p }) (hedges.slot x) (hedges.phase x) (hedges.blocked x)
      rfl .rfl
    exact hcounter.of_same_axes (seal_axis _) rfl rfl hcounter.capacity
  | marks x ms => exact h.onAxis (f := fun u => { u with marks := ms }) (h.slot x) (h.phase x) (h.blocked x) rfl .rfl
  | emptied x => exact emptied_coreLaws x h
  | within x f hwithin => exact within_coreLaws hwithin h
  | ends x sl e st hslot hentry hstate =>
    have hst : st.holdsMove = false ∧ st ≠ .blocked := by obtain rfl | ⟨rfl, -⟩ := hstate <;> exact ⟨rfl, nofun⟩
    exact ends_coreLaws e hslot hst h
  | halts x hstate =>
    exact leaveWaitList_coreLaws ⟨rfl, nofun⟩ (holdsMove_eq_false (hstate.imp_right .inl)) h
  | joins x hidle hqueue => exact joinWaitList_coreLaws hidle hqueue h
  | admitted x w m rest target hroom hqueue hwait => exact admitted_coreLaws rest _ target hroom hwait h
  | lapses x w hwait hqueue => exact absurd hqueue (h.blocked x ((h.waits x).1 (by simp [hwait])))

theorem State.Changes.coreLaws {s t : State} (h : s.Changes t) : s.CoreLaws → t.CoreLaws := h.keeps Change.coreLaws

/-! ### Claims wait at 126 or more (R145) -/

theorem claimLaw_of_le {j k : Journal} (h : j.ClaimLaw) (hwait : k.waitList ≠ [] → j.waitList ≠ []) (hlost : k.lost ≤ j.lost)
    (htotal : j.total ≤ k.total) : k.ClaimLaw := fun hclaim =>
  (h (hclaim.imp hwait fun hpos => hpos.trans_le hlost)).trans htotal

theorem full_of_not_admits {j : Journal} (h : j.admits = false) : Config.admissionLimit ≤ j.total := by
  have := mt (admits_iff_total j).2 (Bool.eq_false_iff.1 h)
  omega

/-- A list that a filter leaves nonempty was nonempty. -/
theorem ne_nil_of_filter {α : Type} {p : α → Bool} {l : List α} (h : l.filter p ≠ []) : l ≠ [] := by rintro rfl; exact h rfl

theorem Change.claimLaw {s t : State} (hchange : Change s t) (hcore : s.CoreLaws) (h : s.journal.ClaimLaw) : t.journal.ClaimLaw := by
  have hleave (x : Axis) : (s.leaveWaitList x).journal.ClaimLaw := claimLaw_of_le h ne_nil_of_filter le_rfl le_rfl
  cases hchange with
  | event e => exact h
  | offer e =>
    simp only [State.offerRecord]
    split
    next =>
      refine claimLaw_of_le h ?_ ?_ ?_
      · rw [writeRecord_waitList]; exact id
      · rw [writeRecord_lost]
      · rw [total_writeRecord]; exact Nat.le_succ _
    next hfull => exact fun _ => by rw [dropRecord_journal]; exact full_of_not_admits (Bool.eq_false_iff.2 hfull)
  | gap hroom =>
    refine claimLaw_of_le h ?_ ?_ ?_ <;> rw [writeGap_journal]
    · exact id
    · exact Nat.zero_le _
    · simp only [Journal.total, List.length_append, List.length_singleton]; omega
  | counter x n p => simpa [State.setCounter] using h
  | marks x ms => simpa using h
  | emptied x =>
    unfold State.unblockFlushed
    split
    · rw [setAxisState_journal, leaveWaitList_journal, setQueue_journal]; exact hleave x
    · rw [setQueue_journal]; exact h
  | within x f => rw [onAxis_journal]; exact h
  | ends x sl e st hslot =>
    rw [setAxisState_journal, setSlot_journal]
    refine claimLaw_of_le h ?_ ?_ (total_convertReservation e (hcore.reserved_pos hslot)).ge <;> rw [convertReservation_journal]
    exact id
  | halts x =>
    rw [setAxisState_journal]
    split
    · exact hleave x
    · exact h
  | joins x _ _ hfull =>
    intro _
    simp only [State.joinWaitList, setAxisState_journal]
    exact full_of_not_admits hfull
  | admitted x w m rest target _ _ hwait =>
    simp only [State.installMove, onAxis_journal]
    refine claimLaw_of_le h (fun hw => ?_) le_rfl (Nat.le_succ _)
    obtain ⟨-, rfl⟩ | hhead := hwait
    · exact hw
    · simp [hhead]
  | lapses x w hwait => exact claimLaw_of_le h (fun _ => by simp [hwait]) le_rfl le_rfl

theorem Change.engineLaws {s t : State} (hchange : Change s t) (h : s.EngineLaws) : t.EngineLaws := by
  obtain ⟨hcore, hclaim⟩ := (engineLaws_iff s).1 h
  exact (engineLaws_iff t).2 ⟨hchange.coreLaws hcore, hchange.claimLaw hcore hclaim⟩

theorem State.Changes.engineLaws {s t : State} (h : s.Changes t) : s.EngineLaws → t.EngineLaws := h.keeps Change.engineLaws

/-! ### The freed-space service restores the claims' law (R145, R146) -/

/-- The service ends with no axis waiting, or at a total that refuses a claim; the lost count is as it was. -/
theorem serveWaiting_ends {xs : List Axis} {s : State} (hwait : s.journal.waitList = xs) :
    ((State.serveWaiting xs s).journal.waitList = [] ∨ (State.serveWaiting xs s).journal.admits = false) ∧
      (State.serveWaiting xs s).journal.lost = s.journal.lost := by
  induction xs generalizing s with
  | nil => exact ⟨.inl hwait, rfl⟩
  | cons x rest ih =>
    unfold State.serveWaiting
    split
    next =>
      obtain ⟨hrest, hlost⟩ := grantHead_claims hwait
      exact ⟨(ih hrest).1, (ih hrest).2.trans hlost⟩
    next hfull => exact ⟨.inr (Bool.eq_false_iff.2 hfull), rfl⟩

theorem claimLaw_of_served {j : Journal} (hwait : j.waitList = [] ∨ j.admits = false) (hlost : j.lost = 0) : j.ClaimLaw := by
  rintro (hw | hl)
  · exact full_of_not_admits (hwait.resolve_left hw)
  · omega

theorem serveFreedSpace_claimLaw (s : State) : s.serveFreedSpace.journal.ClaimLaw := by
  unfold State.serveFreedSpace
  split_ifs with hlost hroom
  · obtain ⟨hends, hsame⟩ := serveWaiting_ends (s := s) rfl
    exact claimLaw_of_served hends (hsame.trans hlost)
  · obtain ⟨hends, hsame⟩ := serveWaiting_ends (writeGap_waitList s)
    exact claimLaw_of_served hends (hsame.trans (by rw [writeGap_journal]))
  · exact fun _ => full_of_not_admits (Bool.eq_false_iff.2 hroom)

end Sys2Proof.Machine
end

section
/-! SUPPORT. What a command can do to the part: what a request's owner leaves, and the effects of the 43 commands. -/

namespace Sys2Proof.Machine

/-! ### What engines do and hear (R205) -/

/-- An axis's engine hears of its lines: the levels it has and the reports outstanding to it change alone. -/
def State.hear (s : State) (x : Axis) (l : Lines) (rs : List Report) : State :=
  s.onAxis x (fun u => { u with lines := l, reports := rs })

/-- One thing that happens on a running part between two requests: a change of an engine, an engine hearing of its lines, or a pin. -/
inductive Activity : State → State → Prop
  | change {s t : State} (h : Change s t) : Activity s t
  | hear (s : State) (x : Axis) (l : Lines) (rs : List Report) : Activity s (s.hear x l rs)
  | pins (s : State) (p : Pins) : Activity s { s with pins := p }

/-- A chain of activities. -/
abbrev State.Acts (s t : State) : Prop := Relation.ReflTransGen Activity s t

theorem State.Changes.acts {s t : State} (h : s.Changes t) : s.Acts t := Relation.ReflTransGen.mono (fun _ _ => Activity.change) _ _ h

theorem pins_acts (s : State) (p : Pins) : s.Acts { s with pins := p } := .single (.pins s p)

theorem setLines_acts (s : State) (x : Axis) (l : Lines) : s.Acts (s.setLines x l) := by
  have h : s.setLines x l = s.hear x l (s.axis x).reports := by cases x <;> rfl
  exact h ▸ .single (.hear s x l _)

theorem setReports_acts (s : State) (x : Axis) (rs : List Report) : s.Acts (s.setReports x rs) := by
  have h : s.setReports x rs = s.hear x (s.axis x).lines rs := by cases x <;> rfl
  exact h ▸ .single (.hear s x _ rs)

theorem takeReport_acts (s : State) (x : Axis) (r : Report) : s.Acts (s.takeReport x r) := by
  cases r with
  | emergency v =>
    simp only [State.takeReport, State.takeEmergency]
    split
    · exact (setLines_acts s x _).trans (emergencyStop_changes _ x).acts
    · exact setLines_acts s x _
  | sync h =>
    simp only [State.takeReport, State.takeSync]
    split
    · exact (setLines_acts s x _).trans (syncEdge_changes _ x).acts
    · exact setLines_acts s x _

theorem takeLine_acts (s : State) (x : Axis) (r : Report) : s.Acts (s.takeLine x r) := by
  unfold State.takeLine
  split
  · exact .refl
  · exact (setReports_acts s x _).trans (takeReport_acts _ x _)

theorem takeLines_acts (x : Axis) (r : Report) (n : Nat) (s : State) : s.Acts (s.takeLines x r n) := by
  induction n generalizing s with
  | zero => exact .refl
  | succ n ih => exact (takeLine_acts s x r).trans (ih _)

theorem takeFront_acts (s : State) (x : Axis) : s.Acts (s.takeFront x) := by
  unfold State.takeFront
  split
  · exact .refl
  · exact (setReports_acts s x _).trans (takeReport_acts _ x _)

theorem takeFronts_acts (x : Axis) (n : Nat) (s : State) : s.Acts (s.takeFronts x n) := by
  induction n generalizing s with
  | zero => exact .refl
  | succ n ih => exact (takeFront_acts s x).trans (ih _)

theorem takeReports_acts (s : State) : s.Acts s.takeReports := (takeFronts_acts .A _ s).trans (takeFronts_acts .B _ _)

theorem lineChanges_acts (s : State) (r : Report) : s.Acts (s.lineChanges r) :=
  ((pins_acts s _).trans (setReports_acts _ .A _)).trans (setReports_acts _ .B _)

theorem report_acts (s : State) (x : Axis) (r : Report) : s.Acts (s.report x r) := by
  unfold State.report
  split_ifs
  · exact takeLines_acts x r _ s
  · exact .refl
  · exact (lineChanges_acts s r).trans (takeLines_acts x r _ _)
  · exact pins_acts s _

/-- What activities keep: the registers of no engine, the held records in place with others after them, and the check code. -/
structure State.Lasting (s t : State) : Prop where
  power : t.power = s.power
  resetLow : t.resetLow = s.resetLow
  profiles : t.profiles = s.profiles
  stations : t.stations = s.stations
  coldFlag : t.coldFlag = s.coldFlag
  settings : t.settings = s.settings
  link : t.link = s.link
  pending : t.pending = s.pending
  records : s.journal.records <+: t.journal.records
  check : s.CheckLaw → t.CheckLaw

theorem State.Lasting.refl (s : State) : s.Lasting s := ⟨rfl, rfl, rfl, rfl, rfl, rfl, rfl, rfl, List.prefix_rfl, id⟩

theorem State.Lasting.trans {s t u : State} (h : s.Lasting t) (k : t.Lasting u) : s.Lasting u :=
  ⟨k.power.trans h.power, k.resetLow.trans h.resetLow, k.profiles.trans h.profiles, k.stations.trans h.stations,
    k.coldFlag.trans h.coldFlag, k.settings.trans h.settings, k.link.trans h.link, k.pending.trans h.pending,
    h.records.trans k.records, fun c => k.check (h.check c)⟩

theorem State.Kept.lasting {s t : State} (h : s.Kept t) : s.Lasting t :=
  ⟨h.power, h.resetLow, h.profiles, h.stations, h.coldFlag, h.settings, h.link, h.pending, h.records, h.check⟩

theorem Activity.lasting {s t : State} (h : Activity s t) : s.Lasting t := by
  cases h with
  | change h => exact h.kept.lasting
  | hear x l rs =>
    refine ⟨?_, ?_, ?_, ?_, ?_, ?_, ?_, ?_, ?_, fun hc => ?_⟩
    case refine_10 =>
      rw [State.CheckLaw, State.hear, onAxis_check, onAxis_retained s x _ (by rfl)]
      exact hc
    all_goals simp [State.hear]
  | pins p => exact ⟨rfl, rfl, rfl, rfl, rfl, rfl, rfl, rfl, List.prefix_rfl, id⟩

theorem State.Acts.lift {P : State → State → Prop} (hrefl : ∀ s, P s s) (htrans : ∀ {s t u}, P s t → P t u → P s u)
    (hactivity : ∀ {s t}, Activity s t → P s t) {s t : State} (h : s.Acts t) : P s t := by
  induction h with
  | refl => exact hrefl s
  | tail _ hstep ih => exact htrans ih (hactivity hstep)

theorem State.Acts.keeps {P : State → Prop} (hactivity : ∀ {s t}, Activity s t → P s → P t) {s t : State} (h : s.Acts t) : P s → P t :=
  h.lift (P := fun s t => P s → P t) (fun _ => id) (fun h k => k ∘ h) hactivity

theorem State.Acts.lasting {s t : State} (h : s.Acts t) : s.Lasting t := h.lift .refl .trans Activity.lasting

/-! ### What a request's owner leaves (R181) -/

/-- A request that stores, teaches or clears a station (R124). -/
def writesStations : Instr → Bool
  | .stationStore .. | .stationTeach .. | .stationClear .. => true
  | _ => false

/-- The named axes return to IDLE (R110). -/
def State.resume (s : State) (na nb : Bool) : State :=
  let t := if na then s.setAxisState .A .idle else s
  if nb then t.setAxisState .B .idle else t

/-- What a request's owner can leave of the part. -/
inductive Owned (c : Instr) : State → State → Prop
  /-- Engines change the part, or nothing changes. -/
  | changes {s t : State} (h : s.Changes t) : Owned c s t
  /-- Records join a queue that has room for them (R12). -/
  | queued (s : State) (x : Axis) (ms : List Move) (hroom : (s.axis x).queue.length + ms.length ≤ Config.queueCapacity)
      (hadmits : ∀ m ∈ ms, m.kind.admits m.value = true) : Owned c s (s.setQueue x ((s.axis x).queue ++ ms))
  /-- HALTED axes return to IDLE while the emergency line is released (R110). -/
  | resumed (s : State) (na nb : Bool) (hfree : s.pins.emergency = false) (ha : na = true → s.a.state = .halted)
      (hb : nb = true → s.b.state = .halted) : Owned c s (s.resume na nb)
  /-- A mark with an id of its own joins a table that has room for it (R114). -/
  | marked (s : State) (x : Axis) (m : Mark) (hroom : (s.axis x).marks.length < Config.markCapacity)
      (hnew : ∀ k ∈ (s.axis x).marks, k.id ≠ m.id) : Owned c s (s.setMarks x (insertMark m (s.axis x).marks))
  /-- A profile is replaced by one in its ranges (R22). -/
  | profile (s : State) (i : Fin 8) (p : Profile) (hc : ∃ index r filler, c = .writeProfile index r filler) (hrange : p.RangeLaw) :
      Owned c s (s.setProfile i p)
  /-- A station is replaced (R124). -/
  | station (s : State) (n : Fin 32) (st : Station) (hc : writesStations c = true) : Owned c s (s.setStation n st)
  /-- The settings are replaced (R186). -/
  | settings (s : State) (cfg : Settings) (hrange : 1 ≤ cfg.threshold.toNat ∧ cfg.threshold.toNat ≤ 128) :
      Owned c s { s with settings := cfg }
  /-- Events are cleared (R200). -/
  | events (s : State) (flags : Byte) : Owned c s { s with events := s.events &&& ~~~flags }
  /-- The cold flag is cleared (R172). -/
  | coldFlag (s : State) : Owned c s { s with coldFlag := false }
  /-- Held records are acknowledged and the freed space is served (R155). -/
  | acked (s : State) (a : Half) (filler : List Byte) (hc : c = .ackJournal a filler) : Owned c s (s.removeThrough a).serveFreedSpace

/-- What an owner's answer is: a state it can leave, and a payload that a reply can carry where the mark tables are in order (R178). -/
structure Answers (c : Instr) (s : State) (r : Answer) : Prop where
  owned : Owned c s r.state
  size : (∀ y, (s.axis y).MarkLaw) → r.payload.length ≤ Config.payloadLimit

/-- An answer that changes nothing. -/
theorem Answers.unchanged {c : Instr} {s : State} {status : Status} {reply : List Byte} (h : reply.length ≤ 64) :
    Answers c s ⟨status, reply, s⟩ := ⟨.changes .refl, fun _ => h⟩

theorem Answers.of_changes {c : Instr} {s t : State} {status : Status} {reply : List Byte} (ht : s.Changes t) (h : reply.length ≤ 64) :
    Answers c s ⟨status, reply, t⟩ := ⟨.changes ht, fun _ => h⟩

/-! ### Each owner's answer -/

theorem length_bytes2 (h : Half) : (bytes2 h).length = 2 := rfl
theorem length_bytes3 (n : Nat) : (bytes3 n).length = 3 := rfl
theorem length_bytes4 (w : Word) : (bytes4 w).length = 4 := rfl
theorem length_settingsBytes (r : RawSettings) : (settingsBytes r).length = 9 := rfl
theorem length_profileBytes (r : RawProfile) : (profileBytes r).length = 14 := rfl

/-- Settings that pass R186's checks have their threshold in its range. -/
theorem threshold_of_checkSettings {r : RawSettings} {cfg : Settings} (h : checkSettings r = .ok cfg) :
    1 ≤ cfg.threshold.toNat ∧ cfg.threshold.toNat ≤ 128 := by
  unfold checkSettings at h
  split at h <;> try cases h
  split at h <;> try cases h
  split at h <;> try cases h
  split_ifs at h with hrange
  split at h <;> try cases h
  split at h <;> try cases h
  change 1 ≤ r.threshold.toNat ∧ r.threshold.toNat ≤ 128
  omega

theorem setSettingsOwner_answers (c : Instr) (r : RawSettings) (s : State) : Answers c s (setSettingsOwner r s) := by
  cases hcheck : checkSettings r with
  | error f => rw [setSettingsOwner_of_error hcheck]; exact .unchanged (by simp [length_settingsBytes])
  | ok cfg =>
    by_cases hbusy : s.polarityBusy cfg = true
    · rw [setSettingsOwner_of_busy hcheck hbusy]; exact .unchanged (by simp [length_settingsBytes])
    · rw [setSettingsOwner_ok hcheck hbusy]
      exact ⟨.settings s cfg (threshold_of_checkSettings hcheck), fun _ => by simp [length_settingsBytes, Config.payloadLimit]⟩

/-- A record that passes R6's checks is a move with a value its kind admits (R2). -/
theorem admits_of_checkMove {r : RawMove} {m : Move} (h : checkMove r = .ok m) : m.kind.admits m.value = true := by
  have hfind := checkMove_of_find? r
  split at hfind
  next => rw [h] at hfind; cases hfind
  next hnone =>
    obtain ⟨m', hm', hkind, -, -, -, -, -, -, hvalue, -⟩ := hfind
    obtain rfl : m = m' := Except.ok.inj (h.symm.trans hm')
    have hpass := List.find?_eq_none.1 hnone .value (by decide)
    rw [moveFieldFails_value r m.kind hkind, ← hvalue] at hpass
    simpa using hpass

theorem admits_of_checkMoves {n : Nat} {moves : List RawMove} {ms : List Move} (h : checkMoves n moves = .ok ms) :
    ∀ m ∈ ms, m.kind.admits m.value = true := by
  induction moves generalizing n ms with
  | nil =>
    obtain rfl := Except.ok.inj h
    nofun
  | cons r rest ih =>
    unfold checkMoves at h
    split at h <;> try cases h
    next m hm =>
      split at h <;> try cases h
      next ms' hms => exact List.forall_mem_cons.2 ⟨admits_of_checkMove hm, ih hms⟩

theorem queueMovesOwner_answers (c : Instr) (sel : Byte) (moves : List RawMove) (s : State) :
    Answers c s (queueMovesOwner sel moves s) := by
  cases hsel : axisOfSelector sel with
  | none => rw [queueMovesOwner_of_no_axis moves s hsel]; exact .unchanged (by simp [queueReply])
  | some x =>
  cases hcheck : checkMoves 1 moves with
  | error e => rw [queueMovesOwner_of_error s hsel hcheck]; exact .unchanged (by simp [queueReply])
  | ok ms =>
    rw [queueMovesOwner_of_ok s hsel hcheck]
    split
    next => exact .unchanged (by simp [queueReply])
    next hroom =>
      exact ⟨.queued s x ms (Nat.not_lt.1 hroom) (admits_of_checkMoves hcheck), fun _ => by simp [queueReply, Config.payloadLimit]⟩

theorem flushQueueOwner_answers (c : Instr) (sel : Byte) (s : State) : Answers c s (flushQueueOwner sel s) := by
  have hflush (named : Bool) (t : State) (x : Axis) : t.Changes (if named then t.flushQueue x .none else t) := by
    cases named
    · exact .refl
    · exact flushQueue_changes t x .none
  unfold flushQueueOwner
  split
  · exact .unchanged (by simp)
  next na nb _ => exact .of_changes ((hflush na s .A).trans (hflush nb _ .B)) (by simp)

theorem stopNamed_changes (s : State) (named : Bool × Bool) (st : Style) (aa : AfterAction) : s.Changes (s.stopNamed named st aa) := by
  have hstop (named : Bool) (t : State) (x : Axis) : t.Changes (if named then t.hostStop x st aa else t) := by
    cases named
    · exact .refl
    · exact hostStop_changes t x st aa
  exact (hstop named.1 s .A).trans (hstop named.2 _ .B)

theorem stopAxisOwner_answers (c : Instr) (sel style after : Byte) (s : State) : Answers c s (stopAxisOwner sel style after s) := by
  cases hsel : axesOfSelector sel with
  | none => simp only [stopAxisOwner, hsel]; exact .unchanged (by simp [State.statesReply])
  | some named =>
  cases hstyle : styleOfCode style with
  | none => simp only [stopAxisOwner, hsel, hstyle]; exact .unchanged (by simp [State.statesReply])
  | some st =>
  cases hafter : afterOfCode after with
  | none => simp only [stopAxisOwner, hsel, hstyle, hafter]; exact .unchanged (by simp [State.statesReply])
  | some aa =>
    rw [stopAxisOwner_ok hsel hstyle hafter]
    exact .of_changes (stopNamed_changes s named st aa) (by simp [State.statesReply])

theorem resumeAxisOwner_answers (c : Instr) (sel : Byte) (s : State) : Answers c s (resumeAxisOwner sel s) := by
  unfold resumeAxisOwner
  split
  next => exact .unchanged (by simp [State.statesReply])
  next na nb _ =>
    split
    next => exact .unchanged (by simp [State.statesReply])
    next hemergency =>
      split
      next => exact .unchanged (by simp [State.statesReply])
      next hbusy =>
        refine ⟨.resumed s na nb (Bool.eq_false_iff.2 hemergency) (fun h => ?_) (fun h => ?_), fun _ => by
          simp [State.statesReply, Config.payloadLimit]⟩ <;> simp_all

theorem length_retuneReply (u : AxisUnit) (f : FieldCode) : (u.retuneReply f).length = 12 := by
  unfold AxisUnit.retuneReply; split <;> rfl

theorem retuned_within {u : AxisUnit} {rate : Nat} {sl sl' : Slot} (h : u.retuned rate = some (sl, sl'))
    (hrate : sl.snap.base ≤ rate ∧ rate ≤ Config.rateLimit) : u.Within { u with slot := some sl' } := by
  unfold AxisUnit.retuned at h
  split at h
  next => cases h
  next z hslot =>
    split at h <;> try cases h
    next hstate => exact within_retuneArmed hslot hstate hrate
    next hstate =>
      split at h <;> try cases h
      next hphase => exact within_retuneRunning hslot hstate hphase hrate

theorem retuneOwner_answers (c : Instr) (sel : Byte) (rate : Word) (s : State) : Answers c s (retuneOwner sel rate s) := by
  unfold retuneOwner
  split
  next => exact .unchanged (by simp)
  next x _ =>
    split
    next => exact .unchanged (by simp [length_retuneReply])
    next hrange =>
      split
      next => exact .unchanged (by simp [length_retuneReply])
      next sl sl' hretuned =>
        split
        next => exact .unchanged (by simp [length_retuneReply])
        next hbase =>
          refine .of_changes (setSlot_changes (retuned_within hretuned ⟨Nat.not_lt.1 hbase, ?_⟩)) (by simp [length_retuneReply])
          exact Nat.not_lt.1 fun h => hrange (.inr h)

theorem setPositionOwner_answers (c : Instr) (sel : Byte) (value : Word) (s : State) : Answers c s (setPositionOwner sel value s) := by
  have hreply (u : AxisUnit) (f : FieldCode) : (u.positionReply f).length = 6 := rfl
  unfold setPositionOwner
  split
  next => exact .unchanged (by simp)
  next x _ =>
    split
    next => exact .unchanged (by simp [hreply])
    next => exact .of_changes (setCounter_changes s x value) (by simp [hreply])

theorem rangeLaw_of_checkProfile {index : Byte} {r : RawProfile} {i : Fin 8} {p : Profile} (h : checkProfile index r = .ok (i, p)) :
    p.RangeLaw := by
  have hramp := r.ramp.isLt
  unfold checkProfile at h
  split_ifs at h with hindex hbase hcruise hzero hsettle
  split at h <;> try cases h
  split at h <;> try cases h
  refine ⟨?_, ?_, ?_, ?_, ?_, ?_⟩ <;> dsimp only <;> omega

theorem writeProfileOwner_answers (index : Byte) (r : RawProfile) (filler : List Byte) (s : State) :
    Answers (.writeProfile index r filler) s (writeProfileOwner index r s) := by
  cases hcheck : checkProfile index r with
  | error f => simp only [writeProfileOwner, hcheck]; exact .unchanged (by simp [length_bytes3])
  | ok ip =>
    simp only [writeProfileOwner, hcheck]
    exact ⟨.profile s ip.1 ip.2 ⟨index, r, filler, rfl⟩ (rangeLaw_of_checkProfile hcheck), fun _ => by
      simp [length_bytes3, Config.payloadLimit]⟩

theorem readProfileOwner_answers (c : Instr) (index : Byte) (s : State) : Answers c s (readProfileOwner index s) := by
  unfold readProfileOwner
  split
  · exact .unchanged (by simp [length_bytes3, length_profileBytes])
  · exact .unchanged (by simp [length_bytes3])

theorem length_stationReply (f : FieldCode) (n : Byte) (st : Station) : (stationReply f n st).length = 12 := by
  obtain ⟨a, b⟩ := st
  cases a <;> cases b <;> rfl

theorem stationAnswers {c : Instr} (s : State) (n : Fin 32) (st : Station) (number : Byte) (hc : writesStations c = true) :
    Answers c s ⟨.ok, stationReply .none number st, s.setStation n st⟩ :=
  ⟨.station s n st hc, fun _ => by simp [length_stationReply, Config.payloadLimit]⟩

theorem stationRefused (c : Instr) (s : State) (f : FieldCode) (number : Byte) (st : Station) (status : Status) :
    Answers c s ⟨status, stationReply f number st, s⟩ := .unchanged (by simp [length_stationReply])

theorem stationStoreOwner_answers (n pa pb : Byte) (va vb : Word) (filler : List Byte) (s : State) :
    Answers (.stationStore n pa va pb vb filler) s (stationStoreOwner n pa va pb vb s) := by
  unfold stationStoreOwner
  split
  next => exact stationRefused _ s _ n _ _
  next =>
    dsimp only
    split
    next => exact stationRefused _ s _ n _ _
    next =>
      split
      next => exact stationRefused _ s _ n _ _
      next =>
        split
        next => exact stationRefused _ s _ n _ _
        next =>
          split
          next => exact stationRefused _ s _ n _ _
          next => exact stationAnswers s _ _ n rfl

theorem stationTeachOwner_answers (n set : Byte) (filler : List Byte) (s : State) :
    Answers (.stationTeach n set filler) s (stationTeachOwner n set s) := by
  unfold stationTeachOwner
  split
  next => exact stationRefused _ s _ n _ _
  next =>
    dsimp only
    split
    next => exact stationRefused _ s _ n _ _
    next => exact stationAnswers s _ _ n rfl

theorem stationClearOwner_answers (n set : Byte) (filler : List Byte) (s : State) :
    Answers (.stationClear n set filler) s (stationClearOwner n set s) := by
  unfold stationClearOwner
  split
  next => exact stationRefused _ s _ n _ _
  next =>
    dsimp only
    split
    next => exact stationRefused _ s _ n _ _
    next => exact stationAnswers s _ _ n rfl

theorem stationReadOwner_answers (c : Instr) (n : Byte) (s : State) : Answers c s (stationReadOwner n s) := by
  unfold stationReadOwner
  split <;> exact stationRefused c s _ n _ _

theorem markAddOwner_answers (c : Instr) (sel id : Byte) (position : Word) (sense : Byte) (s : State) :
    Answers c s (markAddOwner sel id position sense s) := by
  unfold markAddOwner
  split
  next => exact .unchanged (by simp)
  next x _ =>
    split
    next => exact .unchanged (by simp)
    next =>
      split
      next => exact .unchanged (by simp)
      next se _ =>
        dsimp only
        split_ifs with hheld hfull
        · exact .unchanged (by simp)
        · exact .unchanged (by simp)
        · refine ⟨.marked s x ⟨id, position, se⟩ (Nat.not_le.1 hfull) fun k hk hid => hheld ?_, fun _ => by simp [Config.payloadLimit]⟩
          exact isSome_findMark_iff.2 ⟨k, hk, hid⟩

theorem markRemoveOwner_answers (c : Instr) (sel id : Byte) (s : State) : Answers c s (markRemoveOwner sel id s) := by
  have hreply (f : FieldCode) (n : Nat) (m : Option Mark) : (markRemoveReply f n m).length = 7 := by cases m <;> rfl
  unfold markRemoveOwner
  split
  next => exact .unchanged (by simp [hreply])
  next x _ =>
    split
    next => exact .unchanged (by simp [hreply])
    next =>
      dsimp only
      split
      next => exact .unchanged (by simp [hreply])
      next => exact .of_changes (Change.marks s x _ List.filter_sublist).changes (by simp [hreply])

theorem length_flatMap_markBytes (ms : List Mark) : (ms.flatMap Mark.bytes).length = 6 * ms.length := by
  induction ms with
  | nil => rfl
  | cons m rest ih =>
    have hm : m.bytes.length = 6 := rfl
    rw [List.flatMap_cons, List.length_append, ih, hm, List.length_cons]
    omega

/-- A list of at most 8 marks fits a reply (R112, 12.5). -/
theorem markListOwner_answers (c : Instr) (sel : Byte) (s : State) : Answers c s (markListOwner sel s) := by
  unfold markListOwner
  split
  next => exact .unchanged (by simp)
  next x _ =>
    refine ⟨.changes .refl, fun hmarks => ?_⟩
    have hcap : (s.axis x).marks.length ≤ 8 := (hmarks x).1
    simp only [List.length_append, length_flatMap_markBytes, List.length_cons, List.length_nil, Config.payloadLimit]
    omega

theorem length_flatMap_recordBytes (rs : List Record) : (rs.flatMap Record.bytes).length = 20 * rs.length := by
  induction rs with
  | nil => rfl
  | cons r rest ih =>
    have hr : r.bytes.length = 20 := rfl
    rw [List.flatMap_cons, List.length_append, ih, hr, List.length_cons]
    omega

/-- At most three records of 20 bytes fit a reply (R153). -/
theorem readJournalOwner_answers (c : Instr) (start : Half) (k : Byte) (s : State) : Answers c s (readJournalOwner start k s) := by
  have hrefusal (j : Journal) (f : FieldCode) : (j.readRefusal f).length = 7 := rfl
  have hlimit : Config.readLimit = 3 := rfl
  unfold readJournalOwner
  split
  next => exact .unchanged (by simp [hrefusal])
  next hcount =>
    split
    next =>
      refine .unchanged ?_
      have htake : (s.journal.readFrom start k.toNat).length ≤ k.toNat := List.length_take_le _ _
      simp only [List.length_cons, length_flatMap_recordBytes]
      omega
    next =>
      split
      · exact .unchanged (by simp)
      · exact .unchanged (by simp [hrefusal])

theorem ackJournalOwner_answers (a : Half) (filler : List Byte) (s : State) :
    Answers (.ackJournal a filler) s (ackJournalOwner a s) := by
  have hreply (j : Journal) : j.ackReply.length = 8 := rfl
  unfold ackJournalOwner
  split
  · exact ⟨.acked s a filler rfl, fun _ => by simp [hreply, Config.payloadLimit]⟩
  · exact .unchanged (by simp [hreply])

theorem clearEventsOwner_answers (c : Instr) (flags : Byte) (s : State) : Answers c s (clearEventsOwner flags s) :=
  ⟨.events s flags, fun _ => by simp [clearEventsOwner, State.eventReply, Config.payloadLimit]⟩

theorem clearColdFlagOwner_answers (c : Instr) (s : State) : Answers c s (clearColdFlagOwner s) :=
  ⟨.coldFlag s, fun _ => by simp [clearColdFlagOwner, Config.payloadLimit]⟩

theorem length_statusBytes (s : State) : s.statusBytes.length = 42 := rfl

/-! ### The effects of the commands -/

/-- A report of a line or of a pin (chapters 3 to 5). -/
def movesLine : Instr → Bool
  | .syncFallingEdge _ | .syncHigh _ | .limitAssert .. | .limitRelease .. | .homeAssert _ | .homeRelease _ | .emergencyAssert _
  | .emergencyRelease _ => true
  | _ => false

/-- What a command can do to the part. -/
inductive Effect (c : Instr) (s : State) : State → Prop
  /-- The engines' own happenings, on a running part or a held one. -/
  | changes {t : State} (h : s.Changes t) : Effect c s t
  /-- What the engines hear of their lines, on a running part or a held one. -/
  | acts {t : State} (hc : movesLine c = true) (h : s.Acts t) : Effect c s t
  /-- A request that the link takes, after the reports outstanding: its owner's state, and its answer in the reply slot (R181, R205). -/
  | request {u : State} (bytes : List Byte) (r : Reply) (htakes : s.linkTakes = true) (howned : Owned c s.takeReports u)
      (hsize : (∀ y, (s.takeReports.axis y).MarkLaw) → r.payload.length ≤ Config.payloadLimit) :
      Effect c s (u.withLink (s.link.replied bytes r))
  /-- The link and the events alone: transactions ignored, rejected or without a byte, and the fall of chip-select. -/
  | linked (l : Link) (events : Byte) (hsize : s.link.SizeLaw → l.SizeLaw)
      (hshifted : c ≠ .chipSelectFall → s.link.chipSelect = .low → l.shifted = s.link.shifted) :
      Effect c s { s with link := l, events := events }
  /-- SOFT RESET (R165). -/
  | soft (filler : List Byte) (hc : c = .softReset filler) (htakes : s.linkTakes = true) :
      Effect c s (s.takeReports.chipSelectHigh.recoverWarmReset s.takeReports.chipSelectHigh.checkPasses .soft softResetReply)
  /-- The end of a pin reset (R164). -/
  | release (disturbed : Bool) (hc : c = .pinResetRelease disturbed) (hpower : s.power = .heldPin) :
      Effect c s (s.recoverWarmReset (s.checkPasses && !disturbed) .pin Reply.restarted)
  /-- A power-on, at once or at the end of its hold (R161). -/
  | cold (hc : c = .powerOn ∨ ∃ d, c = .pinResetRelease d ∧ s.power = .heldPowerOn) : Effect c s (s.coldInit .powerOn)
  /-- The part is held or without supply from here on; its pulses stop where it ran, and a transaction is discarded (R161, R162). -/
  | held (p : Power) (low : Bool) (a b : AxisUnit) (hp : p ≠ .running) (ha : a = s.a ∨ a = s.a.stopPulses)
      (hb : b = s.b ∨ b = s.b.stopPulses) :
      Effect c s { s with power := p, resetLow := low, a := a, b := b, link := s.link.discard }
  /-- The reset line's level alone (R161). -/
  | level (low : Bool) : Effect c s { s with resetLow := low }

theorem chipSelectHigh_effect (c : Instr) (s : State) : Effect c s s.chipSelectHigh :=
  .linked { s.link with chipSelect := .high } s.events id fun _ _ => rfl

theorem takeRequest_effect {c : Instr} {s : State} {kind : RequestKind} {payload filler : List Byte} {owner : State → Answer}
    (h : Answers c s.takeReports (owner s.takeReports)) : Effect c s (s.takeRequest kind payload filler owner) := by
  cases htakes : s.linkTakes with
  | false => rw [takeRequest_ignored s _ _ _ _ htakes]; exact chipSelectHigh_effect c s
  | true =>
    simp only [State.takeRequest, htakes, if_true]
    exact .request _ _ htakes h.owned h.size

theorem sizeLaw_replied {l : Link} {r : Reply} (bytes : List Byte) (hr : r.payload.length ≤ Config.payloadLimit) :
    (l.replied bytes r).SizeLaw := ⟨List.length_take_le _ _, hr⟩

theorem fixedReply_of_low {l : Link} (h : l.chipSelect = .low) : l.fixedReply = l.shifted := by
  simp [Link.fixedReply, h]

theorem rejectFrame_effect {c : Instr} (s : State) (e : LinkError) (bytes : List Byte) : Effect c s (s.rejectFrame e bytes) :=
  .linked (s.link.replied bytes ⟨statusOfLinkError e, bytes.headD 0#8, []⟩) (s.events ||| Event.linkError.mask)
    (fun _ => sizeLaw_replied bytes (Nat.zero_le _)) fun _ hlow => fixedReply_of_low hlow

/-- Every command that completes has one of the effects. -/
theorem exec_effect {c : Instr} {s t : State} (h : exec c s = .next t) : Effect c s t := by
  have done {u : State} (hu : Effect c s u) (h : Host.Outcome.next u = (.next t : Host.Outcome State Fault Refusal)) : Effect c s t :=
    Host.Outcome.next.inj h ▸ hu
  have branch {p : Prop} [Decidable p] {u v : State} (hu : p → Effect c s u) (hv : ¬p → Effect c s v)
      (h : (if p then Host.Outcome.next u else .next v) = (.next t : Host.Outcome State Fault Refusal)) : Effect c s t := by
    split at h
    next hp => exact done (hu hp) h
    next hp => exact done (hv hp) h
  have idle : Effect c s s := .changes .refl
  cases c with
  | nop filler => exact done (takeRequest_effect (.unchanged (by simp))) h
  | getStatus filler => exact done (takeRequest_effect (.unchanged (by simp [length_statusBytes]))) h
  | getSettings filler => exact done (takeRequest_effect (.unchanged (by simp [length_settingsBytes]))) h
  | setSettings r filler => exact done (takeRequest_effect (setSettingsOwner_answers _ r _)) h
  | queueMoves sel moves filler =>
    simp only [exec, execQueueMoves] at h
    split_ifs at h
    · exact done (takeRequest_effect (queueMovesOwner_answers _ sel moves _)) h
    · exact done (rejectFrame_effect s _ _) h
    · exact done (chipSelectHigh_effect _ s) h
  | flushQueue sel filler => exact done (takeRequest_effect (flushQueueOwner_answers _ sel _)) h
  | stopAxis sel style after filler => exact done (takeRequest_effect (stopAxisOwner_answers _ sel style after _)) h
  | resumeAxis sel filler => exact done (takeRequest_effect (resumeAxisOwner_answers _ sel _)) h
  | retune sel rate filler => exact done (takeRequest_effect (retuneOwner_answers _ sel rate _)) h
  | setPosition sel value filler => exact done (takeRequest_effect (setPositionOwner_answers _ sel value _)) h
  | writeProfile index r filler => exact done (takeRequest_effect (writeProfileOwner_answers index r filler _)) h
  | readProfile index filler => exact done (takeRequest_effect (readProfileOwner_answers _ index _)) h
  | stationStore n pa va pb vb filler => exact done (takeRequest_effect (stationStoreOwner_answers n pa pb va vb filler _)) h
  | stationTeach n set filler => exact done (takeRequest_effect (stationTeachOwner_answers n set filler _)) h
  | stationRead n filler => exact done (takeRequest_effect (stationReadOwner_answers _ n _)) h
  | stationClear n set filler => exact done (takeRequest_effect (stationClearOwner_answers n set filler _)) h
  | markAdd sel id position sense filler => exact done (takeRequest_effect (markAddOwner_answers _ sel id position sense _)) h
  | markRemove sel id filler => exact done (takeRequest_effect (markRemoveOwner_answers _ sel id _)) h
  | markList sel filler => exact done (takeRequest_effect (markListOwner_answers _ sel _)) h
  | readJournal start k filler => exact done (takeRequest_effect (readJournalOwner_answers _ start k _)) h
  | ackJournal a filler => exact done (takeRequest_effect (ackJournalOwner_answers a filler _)) h
  | readEvents filler => exact done (takeRequest_effect (.unchanged (by simp [State.eventReply]))) h
  | clearEvents flags filler => exact done (takeRequest_effect (clearEventsOwner_answers _ flags _)) h
  | clearColdFlag filler => exact done (takeRequest_effect (clearColdFlagOwner_answers _ _)) h
  | softReset filler => exact branch (fun hp => .soft filler rfl hp) (fun _ => chipSelectHigh_effect _ s) h
  | frameRejected bytes =>
    simp only [exec, execFrameRejected] at h
    split_ifs at h
    · exact done (.linked _ s.events (fun hl => sizeLaw_replied [] hl.2) fun _ hlow => fixedReply_of_low hlow) h
    · split at h
      · exact done (rejectFrame_effect s _ _) h
      · cases h
    · exact done (chipSelectHigh_effect _ s) h
  | syncFallingEdge x => exact done (.acts rfl (report_acts s x _)) h
  | syncHigh x => exact done (.acts rfl (report_acts s x _)) h
  | limitAssert x side =>
    have hpin := pins_acts s (s.pins.setSwitches x ((s.pins.switches x).setLimit side true))
    simp only [exec, execLimitAssert] at h
    split_ifs at h
    · exact done (.acts rfl hpin) h
    · exact done (.acts rfl ((hpin.trans (setLines_acts _ x _)).trans (limitStop_changes _ x side).acts)) h
    · exact done (.acts rfl hpin) h
  | limitRelease x side =>
    have hpin := pins_acts s (s.pins.setSwitches x ((s.pins.switches x).setLimit side false))
    exact branch (fun _ => .acts rfl (hpin.trans (setLines_acts _ x _))) (fun _ => .acts rfl hpin) h
  | homeAssert x =>
    have hpin := pins_acts s (s.pins.setSwitches x { s.pins.switches x with home := true })
    simp only [exec, execHomeAssert] at h
    split_ifs at h
    · exact done (.acts rfl hpin) h
    · exact done (.acts rfl ((hpin.trans (setLines_acts _ x _)).trans (homeFound_changes _ x).acts)) h
    · exact done (.acts rfl hpin) h
  | homeRelease x =>
    have hpin := pins_acts s (s.pins.setSwitches x { s.pins.switches x with home := false })
    exact branch (fun _ => .acts rfl (hpin.trans (setLines_acts _ x _))) (fun _ => .acts rfl hpin) h
  | emergencyAssert x => exact done (.acts rfl (report_acts s x _)) h
  | emergencyRelease x => exact done (.acts rfl (report_acts s x _)) h
  | pinReset =>
    exact branch (fun _ => .held .heldPin true _ _ (by decide) (.inr rfl) (.inr rfl)) (fun _ => .level true) h
  | pinResetRelease disturbed =>
    simp only [exec, execPinResetRelease] at h
    split at h
    next hpower => exact done (.release disturbed rfl hpower) h
    next hpower => exact done (.cold (.inr ⟨disturbed, rfl, hpower⟩)) h
    all_goals exact done (.level false) h
  | powerOn =>
    exact branch (fun _ => .held .heldPowerOn s.resetLow s.a s.b (by decide) (.inl rfl) (.inl rfl)) (fun _ => .cold (.inl rfl)) h
  | pulse x => exact branch (fun _ => .changes (emitPulse_changes s x)) (fun _ => idle) h
  | dwellTimeout x => exact branch (fun _ => .changes (dwellEnds_changes s x)) (fun _ => idle) h
  | armTimeout x => exact branch (fun _ => .changes (armEnds_changes s x)) (fun _ => idle) h
  | admissionAttempt x => exact branch (fun _ => .changes (attemptAdmission_changes s x)) (fun _ => idle) h
  | supplyOutOfRange =>
    exact done (.held .off s.resetLow _ _ (by decide) (.inr rfl) (.inr rfl)) h
  | chipSelectFall =>
    exact branch (fun _ => .linked s.link.begin s.events (fun hl => ⟨Nat.zero_le _, hl.2⟩) fun hne => absurd rfl hne)
      (fun _ => .linked { s.link with chipSelect := .ignored } s.events id fun hne => absurd rfl hne) h

/-- A step runs the front command on the part with the queue's rest, or idles. -/
theorem step_effect {s t : State} (h : step s = .next t) : t = s ∨ ∃ c rest, Effect c { s with pending := rest } t := by
  unfold step at h
  split at h
  · exact .inl (Host.Outcome.next.inj h).symm
  · exact .inr ⟨_, _, exec_effect h⟩

end Sys2Proof.Machine
end

section
/-! SUPPORT. Every step keeps the laws of the axes and their claims (chapters 3, 5, 8 and 9): requests, resets and recoveries. -/

namespace Sys2Proof.Machine

/-! ### Activities and owners -/

theorem Activity.engineLaws {s t : State} (hactivity : Activity s t) (h : s.EngineLaws) : t.EngineLaws := by
  cases hactivity with
  | change hchange => exact hchange.engineLaws h
  | hear x l rs =>
    obtain ⟨hcore, hclaim⟩ := (engineLaws_iff s).1 h
    refine (engineLaws_iff _).2 ⟨hcore.onAxis (hcore.slot x) (hcore.phase x) (hcore.blocked x) rfl .rfl, ?_⟩
    rw [State.hear, onAxis_journal]
    exact hclaim
  | pins p => exact ⟨h.1, h.2, h.3, h.4, h.5, h.6, h.7, h.8, h.9, h.10⟩

theorem State.Acts.engineLaws {s t : State} (h : s.Acts t) : s.EngineLaws → t.EngineLaws := h.keeps Activity.engineLaws

/-- A part with the axes and the journal of a lawful part has the laws of the axes and their claims. -/
theorem State.EngineLaws.of_same {s t : State} (h : s.EngineLaws) (ha : t.a = s.a) (hb : t.b = s.b) (hj : t.journal = s.journal) :
    t.EngineLaws := by
  obtain ⟨hcore, hclaim⟩ := (engineLaws_iff s).1 h
  have haxis (y : Axis) : t.axis y = s.axis y := by cases y <;> [exact ha; exact hb]
  exact (engineLaws_iff t).2 ⟨hcore.of_same_axes haxis (by rw [hj]) (by rw [hj]) (hj ▸ hcore.capacity), hj ▸ hclaim⟩

/-- A HALTED axis returns to IDLE (R110). -/
theorem setAxisState_idle_engineLaws {s : State} {x : Axis} (hhalted : (s.axis x).state = .halted) (h : s.EngineLaws) :
    (s.setAxisState x .idle).EngineLaws := by
  obtain ⟨hcore, hclaim⟩ := (engineLaws_iff s).1 h
  have hnone := hcore.slot_none (holdsMove_eq_false (.inr (.inr hhalted)))
  refine (engineLaws_iff _).2 ⟨hcore.onAxis (slotLaw_of_none hnone rfl) (phaseLaw_of_none hnone) nofun rfl (by simp [hhalted]), ?_⟩
  rw [setAxisState_journal]
  exact hclaim

theorem resume_engineLaws {s : State} {na nb : Bool} (ha : na = true → s.a.state = .halted) (hb : nb = true → s.b.state = .halted)
    (h : s.EngineLaws) : (s.resume na nb).EngineLaws := by
  cases na <;> cases nb
  · exact h
  · exact setAxisState_idle_engineLaws (x := .B) (hb rfl) h
  · exact setAxisState_idle_engineLaws (x := .A) (ha rfl) h
  · exact setAxisState_idle_engineLaws (x := .B) (hb rfl) (setAxisState_idle_engineLaws (x := .A) (ha rfl) h)

/-- Records dropped from the front leave the newest where any stay, so the room's law stays (R155). -/
theorem capacityLaw_drop {j : Journal} (n : Nat) (h : j.CapacityLaw) :
    Journal.CapacityLaw { j with records := j.records.drop n } := by
  have htotal : Journal.total { j with records := j.records.drop n } ≤ j.total := by
    simp only [Journal.total, List.length_drop]; omega
  refine ⟨htotal.trans h.1, fun hlt => ?_⟩
  obtain ⟨hnewest, hreserved⟩ := h.2 (hlt.trans_le htotal)
  refine ⟨?_, hreserved⟩
  have hstays : n < j.records.length := by
    have hlimit : Config.admissionLimit = 126 := rfl
    simp only [Journal.total, List.length_drop, hreserved] at hlt
    omega
  simpa only [Journal.newestIsRestart, List.getLast?_drop, if_neg (Nat.not_le.2 hstays)] using hnewest

/-- ACK JOURNAL: the records go, and the service restores what their space owes (R146, R155). -/
theorem acked_engineLaws {s : State} (a : Half) (h : s.EngineLaws) : (s.removeThrough a).serveFreedSpace.EngineLaws := by
  obtain ⟨hcore, -⟩ := (engineLaws_iff s).1 h
  have hremoved : (s.removeThrough a).CoreLaws :=
    hcore.of_same_axes (fun y => setJournal_axis s _ y) rfl rfl (capacityLaw_drop _ hcore.capacity)
  exact (engineLaws_iff _).2 ⟨(serveFreedSpace_changes _).coreLaws hremoved, serveFreedSpace_claimLaw _⟩

theorem Owned.engineLaws {c : Instr} {s t : State} (howned : Owned c s t) (h : s.EngineLaws) : t.EngineLaws := by
  cases howned with
  | changes hchanges => exact hchanges.engineLaws h
  | queued x ms =>
    obtain ⟨hcore, hclaim⟩ := (engineLaws_iff s).1 h
    refine (engineLaws_iff _).2 ⟨setQueue_coreLaws (fun hb => by simp [hcore.blocked x hb]) hcore, ?_⟩
    rw [setQueue_journal]
    exact hclaim
  | resumed na nb _ ha hb => exact resume_engineLaws ha hb h
  | marked x m =>
    obtain ⟨hcore, hclaim⟩ := (engineLaws_iff s).1 h
    refine (engineLaws_iff _).2 ⟨hcore.onAxis (f := fun u => { u with marks := insertMark m (s.axis x).marks }) (hcore.slot x)
      (hcore.phase x) (hcore.blocked x) rfl .rfl, ?_⟩
    rw [setMarks_journal]
    exact hclaim
  | acked a => exact acked_engineLaws a h
  | profile i p => exact h.of_same rfl rfl rfl
  | station n st => exact h.of_same rfl rfl rfl
  | settings cfg => exact h.of_same rfl rfl rfl
  | events flags => exact h.of_same rfl rfl rfl
  | coldFlag => exact h.of_same rfl rfl rfl

/-! ### Recovery (R149, R150, R168 to R170) -/

/-- A merge changes the newest record alone (R150). -/
theorem mergeNewest_append_singleton (kind : RestartKind) (da db : Nat) (pre : List Record) (r : Record) :
    mergeNewest kind da db (pre ++ [r]) = pre ++ [{ r with entry := r.entry.mergeRestart kind da db }] := by
  induction pre with
  | nil => rfl
  | cons first rest ih => cases rest <;> simp_all [mergeNewest]

/-- The journal of a part whose move of an axis was interrupted, in numbers (R170). -/
theorem interruptMove_journal (s : State) (x : Axis) :
    (s.interruptMove x).journal.records.length = s.journal.records.length + (s.axis x).moveCount ∧
      (s.interruptMove x).journal.reserved = s.journal.reserved - (s.axis x).moveCount ∧
      (s.interruptMove x).journal.lost = s.journal.lost ∧
      ((s.axis x).moveCount = 0 → (s.interruptMove x).journal = s.journal) := by
  cases hslot : (s.axis x).slot with
  | none => simp [State.interruptMove, AxisUnit.moveCount, hslot]
  | some sl => simp [State.interruptMove, AxisUnit.moveCount, hslot, convertReservation_journal]

@[simp] theorem interruptMove_axis_other (s : State) (x : Axis) : (s.interruptMove x).axis x.other = s.axis x.other := by
  unfold State.interruptMove; split <;> simp

/-- After both interruptions nothing is reserved, and the total is as it was. -/
theorem interrupted_journal {s : State} (h : s.CoreLaws) :
    let u := (s.interruptMove .A).interruptMove .B
    u.journal.records.length = s.journal.total ∧ u.journal.lost = s.journal.lost ∧
      (Config.admissionLimit < s.journal.total → u.journal = s.journal) := by
  have hreserved := h.reserved_eq .A
  obtain ⟨hlenA, -, hlostA, hsameA⟩ := interruptMove_journal s .A
  obtain ⟨hlenB, -, hlostB, hsameB⟩ := interruptMove_journal (s.interruptMove .A) .B
  have hother : (s.interruptMove .A).axis .B = s.axis .B := interruptMove_axis_other s .A
  rw [hother] at hlenB hsameB
  rw [other_A] at hreserved
  refine ⟨by rw [hlenB, hlenA, Journal.total]; omega, hlostB.trans hlostA, fun hfull => ?_⟩
  have hnone := (h.capacity.2 hfull).2
  rw [hsameB (by omega), hsameA (by omega)]

theorem newestIsRestart_of_records {j : Journal} {pre : List Record} {r : Record} (h : j.records = pre ++ [r]) :
    j.newestIsRestart = (r.entry.kind == .restart) := by
  rw [Journal.newestIsRestart, h, List.getLast?_append]; rfl

/-- The journal that a RESTART record was placed in: within its room, the newest a RESTART, at the count or one more (R149). -/
theorem placeRestart_journal {s : State} (kind : RestartKind) (da db : Nat) (hcap : s.journal.records.length ≤ Config.journalCapacity)
    (hnewest : Config.admissionLimit < s.journal.records.length → s.journal.newestIsRestart = true) :
    let j := (s.placeRestart kind da db).journal
    s.journal.records.length ≤ j.records.length ∧ j.records.length ≤ Config.journalCapacity ∧ j.newestIsRestart = true ∧
      j.lost = s.journal.lost := by
  have hcapacity : Config.journalCapacity = 128 := rfl
  have hlimit : Config.admissionLimit = 126 := rfl
  unfold State.placeRestart
  split_ifs with hroom
  · refine ⟨?_, ?_, ?_, writeRecord_lost s _⟩
    · simp
    · simp only [writeRecord_records, List.length_append, List.length_singleton]; omega
    · simp [Journal.newestIsRestart, Entry.restart]
  · have hrestart := hnewest (by omega)
    obtain hnil | ⟨pre, r, hrecords⟩ := List.eq_nil_or_concat s.journal.records
    · simp [hnil] at hroom; omega
    rw [List.concat_eq_append] at hrecords
    rw [newestIsRestart_of_records hrecords] at hrestart
    have hmerged : mergeNewest kind da db s.journal.records = pre ++ [{ r with entry := r.entry.mergeRestart kind da db }] := by
      rw [hrecords, mergeNewest_append_singleton]
    have hlength : (mergeNewest kind da db s.journal.records).length = s.journal.records.length := by
      rw [hmerged, hrecords]; simp
    have hnew := newestIsRestart_of_records (j := { s.journal with records := mergeNewest kind da db s.journal.records }) hmerged
    exact ⟨hlength.ge, hlength.trans_le hcap, hnew.trans hrestart, rfl⟩

/-- A part whose axes hold no move and are not BLOCKED, with nothing claimed, has the laws where its records have their room. -/
theorem engineLaws_of_clear {t : State} (hslot : ∀ y, (t.axis y).slot = none)
    (hstate : ∀ y, (t.axis y).state.holdsMove = false ∧ (t.axis y).state ≠ .blocked) (hreserved : t.journal.reserved = 0)
    (hwait : t.journal.waitList = []) (hcap : t.journal.records.length ≤ Config.journalCapacity)
    (hnewest : Config.admissionLimit < t.journal.records.length → t.journal.newestIsRestart = true)
    (hlost : 0 < t.journal.lost → Config.admissionLimit ≤ t.journal.records.length) : t.EngineLaws := by
  have htotal : t.journal.total = t.journal.records.length := by rw [Journal.total, hreserved]; rfl
  refine (engineLaws_iff t).2 ⟨⟨fun y => slotLaw_of_none (hslot y) (hstate y).1, fun y => phaseLaw_of_none (hslot y),
    fun y => blockedLaw_of_ne (hstate y).2, ?_, ?_, fun y => ?_, ?_⟩, ?_⟩
  · rw [State.ReservationLaw, moves_eq t .A, moveCount_of_slot (hslot .A), moveCount_of_slot (hslot _), hreserved]; rfl
  · rw [hwait]; exact List.nodup_nil
  · simp [hwait, (hstate y).2]
  · rw [Journal.CapacityLaw, htotal]; exact ⟨hcap, fun h => ⟨hnewest h, hreserved⟩⟩
  · rw [Journal.ClaimLaw, htotal]
    rintro (hw | hl)
    · exact absurd hwait hw
    · exact hlost hl

theorem recovered_state (u : AxisUnit) (l : Lines) (p : Word) :
    (u.recovered l p).state.holdsMove = false ∧ (u.recovered l p).state ≠ .blocked := by
  simp only [AxisUnit.recovered]; split <;> exact ⟨rfl, nofun⟩

theorem coldInit_engineLaws (s : State) (kind : RestartKind) : (s.coldInit kind).EngineLaws := by
  refine engineLaws_of_clear (forall_axis.2 ⟨rfl, rfl⟩) (forall_axis.2 ⟨recovered_state s.a _ _, recovered_state s.b _ _⟩) rfl rfl ?_ ?_ ?_
  · exact (by decide : 1 ≤ 128)
  · exact fun h => absurd h (by decide : ¬126 < 1)
  · exact fun h => absurd h (by decide : ¬0 < 0)

theorem warmRecover_engineLaws {s : State} (kind : RestartKind) (reply : Reply) (h : s.EngineLaws) :
    (s.warmRecover kind reply).EngineLaws := by
  obtain ⟨hcore, hclaim⟩ := (engineLaws_iff s).1 h
  obtain ⟨hlength, hlost, hsame⟩ := interrupted_journal hcore
  obtain ⟨hmore, hcap, hnewest, hlost'⟩ := placeRestart_journal (s := (s.interruptMove .A).interruptMove .B) kind s.a.queue.length
    s.b.queue.length (hlength ▸ hcore.capacity.1) fun hfull => by
      rw [hlength] at hfull
      rw [hsame hfull]
      exact (hcore.capacity.2 hfull).1
  refine engineLaws_of_clear (forall_axis.2 ⟨rfl, rfl⟩) (forall_axis.2 ⟨recovered_state _ _ _, recovered_state _ _ _⟩) rfl rfl hcap
    (fun _ => hnewest) fun hpos => ?_
  have hpos' : 0 < s.journal.lost := by rwa [← hlost, ← hlost']
  exact (hclaim (.inr hpos')).trans (hlength.ge.trans hmore)

theorem recoverWarmReset_engineLaws {s : State} (passes : Bool) (kind : RestartKind) (reply : Reply) (h : s.EngineLaws) :
    (s.recoverWarmReset passes kind reply).EngineLaws := by
  cases passes
  · exact coldInit_engineLaws s .retainFault
  · exact warmRecover_engineLaws kind reply h

/-- The pulses of an axis stop: its move, its state and its queue are kept (R70, R162). -/
theorem held_engineLaws {s t : State} (h : s.EngineLaws) (ha : t.a = s.a ∨ t.a = s.a.stopPulses) (hb : t.b = s.b ∨ t.b = s.b.stopPulses)
    (hj : t.journal = s.journal) : t.EngineLaws := by
  have hstop (u : AxisUnit) : (u.SlotLaw → u.stopPulses.SlotLaw) ∧ (u.PhaseLaw → u.stopPulses.PhaseLaw) ∧
      (u.BlockedLaw → u.stopPulses.BlockedLaw) ∧ u.stopPulses.moveCount = u.moveCount ∧ u.stopPulses.state = u.state := by
    refine ⟨fun hs => ?_, fun hp z hz => ?_, id, ?_, rfl⟩
    · simpa [AxisUnit.SlotLaw, AxisUnit.stopPulses] using hs
    · obtain ⟨sl, hsl, rfl⟩ := Option.map_eq_some_iff.1 hz
      exact hp sl hsl
    · cases hslot : u.slot <;> simp [AxisUnit.moveCount, AxisUnit.stopPulses, hslot]
  obtain ⟨hsa, hpa, hba, hca, hta⟩ := hstop s.a
  obtain ⟨hsb, hpb, hbb, hcb, htb⟩ := hstop s.b
  refine ⟨?_, ?_, ?_, ?_, ?_, ?_, ?_, ?_, hj ▸ h.capacity, hj ▸ h.claims⟩
  · obtain e | e := ha <;> rw [e] <;> [exact h.slotA; exact hsa h.slotA]
  · obtain e | e := hb <;> rw [e] <;> [exact h.slotB; exact hsb h.slotB]
  · obtain e | e := ha <;> rw [e] <;> [exact h.phaseA; exact hpa h.phaseA]
  · obtain e | e := hb <;> rw [e] <;> [exact h.phaseB; exact hpb h.phaseB]
  · obtain e | e := ha <;> rw [e] <;> [exact h.blockedA; exact hba h.blockedA]
  · obtain e | e := hb <;> rw [e] <;> [exact h.blockedB; exact hbb h.blockedB]
  · have hmoves : t.a.moveCount + t.b.moveCount = s.a.moveCount + s.b.moveCount := by
      obtain e | e := ha <;> obtain e' | e' := hb <;> simp only [e, e', hca, hcb]
    rw [State.ReservationLaw, hj]
    exact h.reservation.trans hmoves.symm
  · have hstates : t.a.state = s.a.state ∧ t.b.state = s.b.state := by
      obtain e | e := ha <;> obtain e' | e' := hb <;> simp only [e, e', hta, htb, and_self]
    rw [State.WaitListLaw, hj, hstates.1, hstates.2]
    exact h.waitList

theorem Effect.engineLaws {c : Instr} {s t : State} (heffect : Effect c s t) (h : s.EngineLaws) : t.EngineLaws := by
  cases heffect with
  | changes hchanges => exact hchanges.engineLaws h
  | acts _ hacts => exact hacts.engineLaws h
  | request bytes r htakes howned => exact (howned.engineLaws ((takeReports_acts s).engineLaws h)).of_same rfl rfl rfl
  | linked l events => exact h.of_same rfl rfl rfl
  | soft filler =>
    have htaken : s.takeReports.chipSelectHigh.EngineLaws := ((takeReports_acts s).engineLaws h).of_same rfl rfl rfl
    exact recoverWarmReset_engineLaws _ _ _ htaken
  | release disturbed => exact recoverWarmReset_engineLaws _ _ _ h
  | cold => exact coldInit_engineLaws s .powerOn
  | held p low a b _ ha hb => exact held_engineLaws h ha hb rfl
  | level low => exact h.of_same rfl rfl rfl

/-- Settles O53: a command's effect is made of changes that keep each law, of an owner's answer, or of a recovery. -/
theorem stepsKeepTheEngineLaws : Obligations.StepsKeepTheEngineLaws := by
  intro s t h hstep
  obtain rfl | ⟨c, rest, heffect⟩ := step_effect hstep
  · exact h
  · exact heffect.engineLaws (h.of_same rfl rfl rfl)

end Sys2Proof.Machine
end

section
/-! SUPPORT. Every step keeps the tables, the counts, the rates and the link within their ranges (chapters 1, 2, 6, 8 and 10). -/

namespace Sys2Proof.Machine

/-! ### The laws an axis at a time -/

/-- The laws of one axis's tables and of its move's counts and rates. -/
structure AxisUnit.UnitLaws (u : AxisUnit) : Prop where
  queue : u.QueueLaw
  marks : u.MarkLaw
  distance : u.DistanceLaw
  rate : u.RateLaw

/-- The held records' numbers and the lost count. -/
abbrev Journal.RecordLaws (j : Journal) : Prop := j.SequenceLaw ∧ j.LostLaw

/-- The laws that engines can reach: the axes', the records' and the profiles'. -/
structure State.RangeLaws (s : State) : Prop where
  unit : ∀ y, (s.axis y).UnitLaws
  records : s.journal.RecordLaws
  profiles : s.ProfileLaw

theorem tableLaws_iff (s : State) : s.TableLaws ↔ s.RangeLaws ∧ s.ThresholdLaw ∧ s.link.SizeLaw := by
  constructor
  · rintro ⟨hqa, hqb, hma, hmb, hda, hdb, hra, hrb, hseq, hlost, hprofiles, hthreshold, hsize⟩
    exact ⟨⟨forall_axis.2 ⟨⟨hqa, hma, hda, hra⟩, ⟨hqb, hmb, hdb, hrb⟩⟩, ⟨hseq, hlost⟩, hprofiles⟩, hthreshold, hsize⟩
  · rintro ⟨⟨hunit, ⟨hseq, hlost⟩, hprofiles⟩, hthreshold, hsize⟩
    obtain ⟨ha, hb⟩ := forall_axis.1 hunit
    exact ⟨ha.queue, hb.queue, ha.marks, hb.marks, ha.distance, hb.distance, ha.rate, hb.rate, hseq, hlost, hprofiles, hthreshold,
      hsize⟩

/-- An axis without a move keeps the laws of its move. -/
theorem unitLaws_of_none {u : AxisUnit} (hqueue : u.QueueLaw) (hmarks : u.MarkLaw) (hslot : u.slot = none) : u.UnitLaws := by
  refine ⟨hqueue, hmarks, fun sl hsl => ?_, fun sl hsl => ?_⟩ <;> rw [hslot] at hsl <;> cases hsl

theorem queueLaw_nil {u : AxisUnit} (h : u.queue = []) : u.QueueLaw := by
  rw [AxisUnit.QueueLaw, h]; exact ⟨Nat.zero_le _, nofun⟩

theorem markLaw_nil {u : AxisUnit} (h : u.marks = []) : u.MarkLaw := by
  rw [AxisUnit.MarkLaw, h]; exact ⟨Nat.zero_le _, .nil⟩

/-- An axis in a state without a move emits nothing, whatever its slot holds. -/
theorem emitting_of_not_holds {u : AxisUnit} (h : u.state.holdsMove = false) : u.emitting = false := by
  by_contra hne
  rw [holdsMove_of_emitting (Bool.eq_true_of_not_eq_false hne)] at h
  cases h

/-- An axis in a state without a move keeps the laws, whatever state that is. -/
theorem AxisUnit.UnitLaws.inState {u : AxisUnit} (h : u.UnitLaws) {st : AxisState} (hst : st.holdsMove = false) :
    AxisUnit.UnitLaws { u with state := st } := by
  refine ⟨h.queue, h.marks, fun sl hsl d hd => ⟨(h.distance sl hsl d hd).1, ?_, fun he => ?_⟩, h.rate⟩
  · rintro rfl; cases hst
  · rw [emitting_of_not_holds (u := { u with state := st }) hst] at he; cases he

theorem AxisUnit.UnitLaws.within {u v : AxisUnit} (h : u.UnitLaws) (hwithin : u.Within v) : v.UnitLaws := by
  refine ⟨?_, ?_, hwithin.distance h.distance, hwithin.rate h.rate⟩
  · rw [AxisUnit.QueueLaw, hwithin.queue]; exact h.queue
  · rw [AxisUnit.MarkLaw, hwithin.marks]; exact h.marks

/-! ### The records' numbers (R134) -/

theorem consecutiveFrom_append_singleton {n : Half} {rs : List Record} (h : consecutiveFrom n rs) {r : Record}
    (hr : r.seq = n + BitVec.ofNat 16 rs.length) : consecutiveFrom n (rs ++ [r]) := by
  induction rs generalizing n with
  | nil => exact ⟨by simpa using hr, trivial⟩
  | cons first rest ih =>
    refine ⟨h.1, ih h.2 ?_⟩
    rw [hr, List.length_cons, BitVec.ofNat_add]
    ring

theorem consecutiveFrom_drop {n : Half} {rs : List Record} (h : consecutiveFrom n rs) (k : Nat) :
    consecutiveFrom (n + BitVec.ofNat 16 k) (rs.drop k) := by
  induction k generalizing n rs with
  | zero => simpa using h
  | succ k ih =>
    cases rs with
    | nil => trivial
    | cons first rest =>
      have hrest := ih h.2
      rwa [add_assoc, add_comm 1#16, show (1#16 : Half) = BitVec.ofNat 16 1 from rfl, ← BitVec.ofNat_add] at hrest

theorem consecutiveFrom_iff_of_seqs {n : Half} {rs rs' : List Record} (h : rs.map Record.seq = rs'.map Record.seq) :
    consecutiveFrom n rs ↔ consecutiveFrom n rs' := by
  induction rs generalizing n rs' with
  | nil =>
    rw [List.map_nil, eq_comm, List.map_eq_nil_iff] at h
    rw [h]
  | cons first rest ih =>
    cases rs' with
    | nil => cases h
    | cons first' rest' =>
      rw [List.map_cons, List.map_cons, List.cons.injEq] at h
      simp only [consecutiveFrom, h.1, ih h.2]

/-- A record with the counter's number joins the held ones. -/
theorem sequenceLaw_append {j : Journal} (h : j.SequenceLaw) (e : Entry) :
    Journal.SequenceLaw { j with records := j.records ++ [⟨j.seq, e⟩], seq := j.seq + 1#16 } := by
  have hfirst : j.seq + 1#16 - BitVec.ofNat 16 (j.records ++ [(⟨j.seq, e⟩ : Record)]).length = j.seq - BitVec.ofNat 16 j.records.length := by
    rw [List.length_append, List.length_singleton, BitVec.ofNat_add]
    ring
  rw [Journal.SequenceLaw]
  dsimp only
  rw [hfirst]
  exact consecutiveFrom_append_singleton h (by ring)

theorem sequenceLaw_drop {j : Journal} (h : j.SequenceLaw) (k : Nat) : Journal.SequenceLaw { j with records := j.records.drop k } := by
  by_cases hk : k ≤ j.records.length
  · have hdrop := consecutiveFrom_drop h k
    have hfirst : j.seq - BitVec.ofNat 16 j.records.length + BitVec.ofNat 16 k = j.seq - BitVec.ofNat 16 (j.records.drop k).length := by
      obtain ⟨m, hm⟩ := Nat.exists_eq_add_of_le hk
      rw [List.length_drop, hm, Nat.add_sub_cancel_left, BitVec.ofNat_add]
      ring
    rwa [hfirst] at hdrop
  · rw [Journal.SequenceLaw, List.drop_eq_nil_of_le (Nat.le_of_not_le hk)]
    trivial

/-- A record written through any of the journal's claims keeps the numbers and the lost count. -/
theorem recordLaws_writeRecord {s : State} (h : s.journal.RecordLaws) (e : Entry) : (s.writeRecord e).journal.RecordLaws := by
  rw [writeRecord_eq]
  exact ⟨sequenceLaw_append h.1 e, h.2⟩

theorem recordLaws_offerRecord {s : State} (h : s.journal.RecordLaws) (e : Entry) : (s.offerRecord e).journal.RecordLaws := by
  simp only [State.offerRecord]
  split
  · exact recordLaws_writeRecord h e
  · rw [dropRecord_journal]
    exact ⟨h.1, min_le_right _ _⟩

theorem recordLaws_convertReservation {s : State} (h : s.journal.RecordLaws) (e : Entry) :
    (s.convertReservation e).journal.RecordLaws := by
  rw [convertReservation_journal]
  exact ⟨sequenceLaw_append h.1 e, h.2⟩

theorem recordLaws_writeGap {s : State} (h : s.journal.RecordLaws) : s.writeGap.journal.RecordLaws := by
  rw [writeGap_journal]
  exact ⟨sequenceLaw_append h.1 _, Nat.zero_le _⟩

theorem writeGap_axis (s : State) (y : Axis) : s.writeGap.axis y = s.axis y := by
  rw [State.writeGap, writeRecord_axis]; cases y <;> rfl

/-! ### Each change, activity and owner -/

/-- A part whose axes have their laws, with the journal's and the profiles'. -/
theorem State.RangeLaws.of_onAxis {s t : State} {x : Axis} {f : AxisUnit → AxisUnit} (h : s.RangeLaws) (haxis : ∀ y, t.axis y = s.axis y)
    (hunit : (f (s.axis x)).UnitLaws) (hrecords : t.journal.RecordLaws) (hprofiles : t.profiles = s.profiles) :
    (t.onAxis x f).RangeLaws where
  unit := forall_axis_of_onAxis (P := AxisUnit.UnitLaws) (haxis x ▸ hunit) (haxis _ ▸ h.unit _)
  records := by rw [onAxis_journal]; exact hrecords
  profiles := by rw [State.ProfileLaw, onAxis_profiles, hprofiles]; exact h.profiles

theorem State.RangeLaws.of_same_axes {s t : State} (h : s.RangeLaws) (haxis : ∀ y, t.axis y = s.axis y)
    (hrecords : t.journal.RecordLaws) (hprofiles : t.profiles = s.profiles) : t.RangeLaws where
  unit y := haxis y ▸ h.unit y
  records := hrecords
  profiles := by rw [State.ProfileLaw, hprofiles]; exact h.profiles

theorem State.RangeLaws.onAxis {s : State} {x : Axis} {f : AxisUnit → AxisUnit} (h : s.RangeLaws) (hunit : (f (s.axis x)).UnitLaws) :
    (s.onAxis x f).RangeLaws := h.of_onAxis (fun _ => rfl) hunit h.records rfl

theorem AxisUnit.UnitLaws.withQueue {u : AxisUnit} (h : u.UnitLaws) {q : List Move} (hq : AxisUnit.QueueLaw { u with queue := q }) :
    AxisUnit.UnitLaws { u with queue := q } := ⟨hq, h.marks, h.distance, h.rate⟩

theorem rangeLaw_snapshot {p : Profile} (h : p.RangeLaw) : p.snapshot.RangeLaw := by
  obtain ⟨hbase, hcruise, hlimit, hramp, -, -⟩ := h
  exact ⟨hbase, hcruise, hlimit, hcruise, hlimit, hramp⟩

/-- An admitted head comes with a distance in reach, no pulse, and its profile's rates (R2, R24, R43). -/
theorem unitLaws_admitted {u : AxisUnit} {m : Move} {rest : List Move} {p : Profile} {target : Option Direction × Option Nat}
    (h : u.UnitLaws) (hqueue : u.queue = m :: rest) (hp : p.RangeLaw) (htarget : m.Reaches target) :
    AxisUnit.UnitLaws { u with queue := rest, slot := some (Slot.admitted m p target), state := .armed } := by
  obtain ⟨hlength, hadmits⟩ := h.queue
  rw [hqueue] at hlength hadmits
  obtain ⟨hm, hrest⟩ := List.forall_mem_cons.1 hadmits
  refine ⟨⟨(Nat.le_succ _).trans hlength, hrest⟩, h.marks, fun sl hsl d hd => ?_, fun sl hsl => ?_⟩ <;>
    obtain rfl := Option.some.inj hsl
  · exact ⟨htarget d hd hm, fun _ => rfl, nofun⟩
  · exact ⟨rangeLaw_snapshot hp, nofun⟩

theorem Change.rangeLaws {s t : State} (hchange : Change s t) (h : s.RangeLaws) : t.RangeLaws := by
  cases hchange with
  | event e => exact h.of_same_axes (setEvent_axis s e) h.records rfl
  | offer e => exact h.of_same_axes (offerRecord_axis s e) (recordLaws_offerRecord h.records e) (offerRecord_kept s e).profiles
  | gap => exact h.of_same_axes (writeGap_axis s) (recordLaws_writeGap h.records) (writeGap_kept s).profiles
  | counter x n p =>
    have hunit := h.unit x
    have hmoved : AxisUnit.UnitLaws { s.axis x with stepEdges := n, position := p } :=
      ⟨hunit.queue, hunit.marks, hunit.distance, hunit.rate⟩
    have hstate := h.onAxis (f := fun u => { u with stepEdges := n, position := p }) hmoved
    have heq : (s.onAxis x (fun u => { u with stepEdges := n })).onAxis x (fun u => { u with position := p }) =
        s.onAxis x (fun u => { u with stepEdges := n, position := p }) := onAxis_onAxis ..
    rw [State.setCounter, heq]
    exact hstate.of_same_axes (seal_axis _) hstate.records rfl
  | marks x ms hsub =>
    have hunit := h.unit x
    exact h.onAxis (f := fun u => { u with marks := ms })
      ⟨hunit.queue, ⟨hsub.length_le.trans hunit.marks.1, hunit.marks.2.sublist hsub⟩, hunit.distance, hunit.rate⟩
  | emptied x =>
    have hempty : AxisUnit.UnitLaws { s.axis x with queue := [] } := (h.unit x).withQueue (queueLaw_nil rfl)
    unfold State.unblockFlushed
    split
    · have heq : ((s.setQueue x []).leaveWaitList x).setAxisState x .idle =
          (s.leaveWaitList x).onAxis x (fun u => { u with queue := [], state := .idle }) := by cases x <;> rfl
      rw [heq]
      exact h.of_onAxis (leaveWaitList_axis s x) (hempty.inState rfl) h.records rfl
    · exact h.onAxis hempty
  | within x f hwithin => exact h.onAxis ((h.unit x).within hwithin)
  | ends x sl e st =>
    have hunit := h.unit x
    rw [State.setSlot, State.setAxisState, onAxis_onAxis]
    exact h.of_onAxis (convertReservation_axis s e) (unitLaws_of_none hunit.queue hunit.marks rfl)
      (recordLaws_convertReservation h.records e) (convertReservation_kept s e).profiles
  | halts x =>
    have hhalted : AxisUnit.UnitLaws { s.axis x with state := .halted } := (h.unit x).inState rfl
    split
    · exact h.of_onAxis (f := fun u => { u with state := .halted }) (leaveWaitList_axis s x) hhalted h.records rfl
    · exact h.onAxis (f := fun u => { u with state := .halted }) hhalted
  | joins x =>
    have hblocked : AxisUnit.UnitLaws { s.axis x with state := .blocked } := (h.unit x).inState rfl
    exact h.of_onAxis (f := fun u => { u with state := .blocked }) (forall_axis.2 ⟨rfl, rfl⟩) hblocked h.records rfl
  | admitted x w m rest target _ hqueue _ htarget =>
    exact h.of_onAxis (forall_axis.2 ⟨rfl, rfl⟩) (unitLaws_admitted (h.unit x) hqueue (h.profiles _) htarget) h.records rfl
  | lapses x w => exact h.of_same_axes (forall_axis.2 ⟨rfl, rfl⟩) h.records rfl

theorem State.Changes.rangeLaws {s t : State} (h : s.Changes t) : s.RangeLaws → t.RangeLaws := h.keeps Change.rangeLaws

theorem Activity.rangeLaws {s t : State} (hactivity : Activity s t) (h : s.RangeLaws) : t.RangeLaws := by
  cases hactivity with
  | change hchange => exact hchange.rangeLaws h
  | hear x l rs =>
    have hunit := h.unit x
    exact h.onAxis ⟨hunit.queue, hunit.marks, hunit.distance, hunit.rate⟩
  | pins p => exact h.of_same_axes (forall_axis.2 ⟨rfl, rfl⟩) h.records rfl

theorem State.Acts.tableLaws {s t : State} (hacts : s.Acts t) (h : s.TableLaws) : t.TableLaws := by
  obtain ⟨hrange, hthreshold, hsize⟩ := (tableLaws_iff s).1 h
  have hlasting := hacts.lasting
  refine (tableLaws_iff t).2 ⟨hacts.keeps Activity.rangeLaws hrange, ?_, hlasting.link ▸ hsize⟩
  rw [State.ThresholdLaw, hlasting.settings]
  exact hthreshold

theorem setProfile_profileLaw {s : State} {i : Fin 8} {p : Profile} (hp : p.RangeLaw) (h : s.ProfileLaw) :
    (s.setProfile i p).ProfileLaw := by
  intro j
  by_cases hij : i = j
  · subst hij; rwa [setProfile_profiles_same]
  · have hne : (i : Nat) ≠ j := fun he => hij (Fin.ext he)
    have hsame : (s.setProfile i p).profiles[j] = s.profiles[j] := Vector.getElem_set_ne i.isLt j.isLt hne
    rw [hsame]
    exact h j

theorem resume_eq (s : State) (na nb : Bool) :
    s.resume na nb = { s with
      a := if na then { s.a with state := .idle } else s.a
      b := if nb then { s.b with state := .idle } else s.b } := by
  cases na <;> cases nb <;> rfl

theorem Owned.tableLaws {c : Instr} {s t : State} (howned : Owned c s t) (h : s.TableLaws) : t.TableLaws := by
  obtain ⟨hrange, hthreshold, hsize⟩ := (tableLaws_iff s).1 h
  cases howned with
  | changes hchanges => exact hchanges.acts.tableLaws h
  | queued x ms hroom hadmits =>
    have hqueue : AxisUnit.QueueLaw { s.axis x with queue := (s.axis x).queue ++ ms } := by
      refine ⟨by simpa using hroom, fun m hm => ?_⟩
      exact (List.mem_append.1 hm).elim ((hrange.unit x).queue.2 m) (hadmits m)
    refine (tableLaws_iff _).2 ⟨hrange.onAxis (f := fun u => { u with queue := (s.axis x).queue ++ ms })
      ((hrange.unit x).withQueue hqueue), ?_, ?_⟩
    · rw [State.ThresholdLaw, setQueue_settings]; exact hthreshold
    · rw [setQueue_link]; exact hsize
  | resumed na nb =>
    have hidle (named : Bool) {u : AxisUnit} (hu : u.UnitLaws) :
        AxisUnit.UnitLaws (if named then { u with state := .idle } else u) := by
      cases named
      · exact hu
      · exact hu.inState rfl
    rw [resume_eq]
    exact (tableLaws_iff _).2 ⟨⟨forall_axis.2 ⟨hidle na (hrange.unit .A), hidle nb (hrange.unit .B)⟩, hrange.records, hrange.profiles⟩,
      hthreshold, hsize⟩
  | marked x m hroom hnew =>
    have hunit := hrange.unit x
    have hmarks : AxisUnit.MarkLaw { s.axis x with marks := insertMark m (s.axis x).marks } :=
      ⟨(insertMark_perm m _).length_eq.trans_le hroom, insertMark_marksAscend hunit.marks.2 hnew⟩
    refine (tableLaws_iff _).2 ⟨hrange.onAxis (f := fun u => { u with marks := insertMark m (s.axis x).marks })
      ⟨hunit.queue, hmarks, hunit.distance, hunit.rate⟩, ?_, ?_⟩
    · rw [State.ThresholdLaw, setMarks_settings]; exact hthreshold
    · rw [setMarks_link]; exact hsize
  | profile i p _ hp =>
    exact (tableLaws_iff _).2 ⟨⟨forall_axis.2 ⟨hrange.unit .A, hrange.unit .B⟩, hrange.records, setProfile_profileLaw hp hrange.profiles⟩,
      hthreshold, hsize⟩
  | settings cfg hcfg => exact (tableLaws_iff _).2 ⟨hrange.of_same_axes (forall_axis.2 ⟨rfl, rfl⟩) hrange.records rfl, hcfg, hsize⟩
  | acked a =>
    have hremoved : (s.removeThrough a).RangeLaws :=
      hrange.of_same_axes (setJournal_axis s _) ⟨sequenceLaw_drop hrange.records.1 _, hrange.records.2⟩ rfl
    exact (serveFreedSpace_changes _).acts.tableLaws ((tableLaws_iff _).2 ⟨hremoved, hthreshold, hsize⟩)
  | station n st => exact (tableLaws_iff _).2 ⟨hrange.of_same_axes (forall_axis.2 ⟨rfl, rfl⟩) hrange.records rfl, hthreshold, hsize⟩
  | events flags => exact (tableLaws_iff _).2 ⟨hrange.of_same_axes (forall_axis.2 ⟨rfl, rfl⟩) hrange.records rfl, hthreshold, hsize⟩
  | coldFlag => exact (tableLaws_iff _).2 ⟨hrange.of_same_axes (forall_axis.2 ⟨rfl, rfl⟩) hrange.records rfl, hthreshold, hsize⟩

/-! ### Recovery and holds -/

theorem recovered_unitLaws (u : AxisUnit) (l : Lines) (p : Word) : (u.recovered l p).UnitLaws :=
  unitLaws_of_none (queueLaw_nil rfl) (markLaw_nil rfl) rfl

theorem default_threshold : 1 ≤ Settings.default.threshold.toNat ∧ Settings.default.threshold.toNat ≤ 128 := by decide

theorem recovered_sizeLaw (l : Link) {reply : Reply} (h : reply.payload.length ≤ Config.payloadLimit) : (l.recovered reply).SizeLaw :=
  ⟨Nat.zero_le _, h⟩

theorem cold_profileLaw (i : Fin 8) : ((Vector.replicate 8 Profile.cold)[i]).RangeLaw := by
  have hcold : (Vector.replicate 8 Profile.cold)[i] = Profile.cold := Vector.getElem_replicate _
  rw [hcold]
  decide

theorem coldInit_tableLaws (s : State) (kind : RestartKind) : (s.coldInit kind).TableLaws := by
  have hfirst : (1#16 : Half) = 2#16 - BitVec.ofNat 16 1 := by decide
  exact (tableLaws_iff _).2 ⟨⟨forall_axis.2 ⟨recovered_unitLaws _ _ _, recovered_unitLaws _ _ _⟩, ⟨⟨hfirst, trivial⟩, Nat.zero_le _⟩,
    cold_profileLaw⟩, default_threshold, recovered_sizeLaw _ (Nat.zero_le _)⟩

theorem recordLaws_interruptMove {s : State} (x : Axis) (h : s.journal.RecordLaws) : (s.interruptMove x).journal.RecordLaws := by
  unfold State.interruptMove
  split
  · exact h
  · rw [setSlot_journal]; exact recordLaws_convertReservation h _

/-- A merge keeps the records' numbers (R150). -/
theorem map_seq_mergeNewest (kind : RestartKind) (da db : Nat) (rs : List Record) :
    (mergeNewest kind da db rs).map Record.seq = rs.map Record.seq := by
  obtain rfl | ⟨pre, r, rfl⟩ := List.eq_nil_or_concat rs
  · rfl
  · rw [List.concat_eq_append, mergeNewest_append_singleton, List.map_append, List.map_append]
    rfl

theorem recordLaws_placeRestart {s : State} (kind : RestartKind) (da db : Nat) (h : s.journal.RecordLaws) :
    (s.placeRestart kind da db).journal.RecordLaws := by
  unfold State.placeRestart
  split_ifs
  · exact recordLaws_writeRecord h _
  · have hseqs := map_seq_mergeNewest kind da db s.journal.records
    have hlength : (mergeNewest kind da db s.journal.records).length = s.journal.records.length := by
      simpa using congrArg List.length hseqs
    refine ⟨?_, h.2⟩
    rw [setJournal_journal, Journal.SequenceLaw, consecutiveFrom_iff_of_seqs hseqs, hlength]
    exact h.1

theorem interruptMove_kept (s : State) (x : Axis) : s.Kept (s.interruptMove x) := by
  unfold State.interruptMove
  split
  · exact .refl s
  · exact (convertReservation_kept s _).trans (setSlot_kept _ x none)

theorem placeRestart_profiles (s : State) (kind : RestartKind) (da db : Nat) : (s.placeRestart kind da db).profiles = s.profiles := by
  unfold State.placeRestart
  split_ifs
  · exact (writeRecord_kept s _).profiles
  · rfl

theorem warmRecover_profiles (s : State) (kind : RestartKind) (reply : Reply) : (s.warmRecover kind reply).profiles = s.profiles :=
  (placeRestart_profiles _ kind _ _).trans ((interruptMove_kept s .A).trans (interruptMove_kept _ .B)).profiles

theorem warmRecover_tableLaws {s : State} (kind : RestartKind) {reply : Reply} (hreply : reply.payload.length ≤ Config.payloadLimit)
    (h : s.TableLaws) : (s.warmRecover kind reply).TableLaws := by
  obtain ⟨hrange, -, -⟩ := (tableLaws_iff s).1 h
  have hrecords := recordLaws_placeRestart kind s.a.queue.length s.b.queue.length
    (recordLaws_interruptMove .B (recordLaws_interruptMove .A hrange.records))
  refine (tableLaws_iff _).2 ⟨⟨forall_axis.2 ⟨recovered_unitLaws _ _ _, recovered_unitLaws _ _ _⟩, hrecords, ?_⟩, default_threshold,
    recovered_sizeLaw _ hreply⟩
  rw [State.ProfileLaw, warmRecover_profiles]
  exact hrange.profiles

theorem recoverWarmReset_tableLaws {s : State} (passes : Bool) (kind : RestartKind) {reply : Reply}
    (hreply : reply.payload.length ≤ Config.payloadLimit) (h : s.TableLaws) : (s.recoverWarmReset passes kind reply).TableLaws := by
  cases passes
  · exact coldInit_tableLaws s .retainFault
  · exact warmRecover_tableLaws kind hreply h

theorem AxisUnit.UnitLaws.stopPulses {u : AxisUnit} (h : u.UnitLaws) : u.stopPulses.UnitLaws := by
  refine ⟨h.queue, h.marks, fun z hz d hd => ?_, fun z hz => ?_⟩ <;> obtain ⟨sl, hsl, rfl⟩ := Option.map_eq_some_iff.1 hz
  · obtain ⟨hlimit, harmed, hemit⟩ := h.distance sl hsl d hd
    refine ⟨hlimit, harmed, fun he => hemit ?_⟩
    simpa [AxisUnit.emitting, AxisUnit.stopPulses, Option.mem_def.1 hsl] using he
  · exact ⟨(h.rate sl hsl).1, nofun⟩

theorem Effect.tableLaws {c : Instr} {s t : State} (heffect : Effect c s t) (h : s.TableLaws) : t.TableLaws := by
  obtain ⟨hrange, hthreshold, hsize⟩ := (tableLaws_iff s).1 h
  have htaken := (takeReports_acts s).tableLaws h
  cases heffect with
  | changes hchanges => exact hchanges.acts.tableLaws h
  | acts _ hacts => exact hacts.tableLaws h
  | request bytes r htakes howned hpayload =>
    obtain ⟨hrange', hthreshold', -⟩ := (tableLaws_iff _).1 (howned.tableLaws htaken)
    have hmarks := fun y => (((tableLaws_iff _).1 htaken).1.unit y).marks
    exact (tableLaws_iff _).2 ⟨hrange'.of_same_axes (withLink_axis _ _) hrange'.records rfl, hthreshold',
      sizeLaw_replied bytes (hpayload hmarks)⟩
  | linked l events hl =>
    exact (tableLaws_iff _).2 ⟨hrange.of_same_axes (forall_axis.2 ⟨rfl, rfl⟩) hrange.records rfl, hthreshold, hl hsize⟩
  | soft filler =>
    obtain ⟨hrange', hthreshold', hsize'⟩ := (tableLaws_iff _).1 htaken
    refine recoverWarmReset_tableLaws _ _ (Nat.zero_le _) ((tableLaws_iff _).2 ⟨?_, hthreshold', hsize'⟩)
    exact hrange'.of_same_axes (chipSelectHigh_axis _) hrange'.records rfl
  | release disturbed => exact recoverWarmReset_tableLaws _ _ (Nat.zero_le _) h
  | cold => exact coldInit_tableLaws s .powerOn
  | held p low a b _ ha hb =>
    refine (tableLaws_iff _).2 ⟨⟨forall_axis.2 ⟨?_, ?_⟩, hrange.records, hrange.profiles⟩, hthreshold, hsize⟩
    · obtain rfl | rfl := ha <;> [exact hrange.unit .A; exact (hrange.unit .A).stopPulses]
    · obtain rfl | rfl := hb <;> [exact hrange.unit .B; exact (hrange.unit .B).stopPulses]
  | level low => exact (tableLaws_iff _).2 ⟨hrange.of_same_axes (forall_axis.2 ⟨rfl, rfl⟩) hrange.records rfl, hthreshold, hsize⟩

/-- Settles O55: each law by the changes, the owners' answers and the recoveries that a command's effect is made of. -/
theorem stepsKeepTheTableLaws : Obligations.StepsKeepTheTableLaws := by
  intro s t h hstep
  obtain rfl | ⟨c, rest, heffect⟩ := step_effect hstep
  · exact h
  · obtain ⟨hrange, hthreshold, hsize⟩ := (tableLaws_iff s).1 h
    exact heffect.tableLaws ((tableLaws_iff _).2 ⟨hrange.of_same_axes (forall_axis.2 ⟨rfl, rfl⟩) hrange.records rfl, hthreshold, hsize⟩)

/-! ### The check code (R166) -/

theorem coldInit_checkLaw (s : State) (kind : RestartKind) : (s.coldInit kind).CheckLaw := seal_checkLaw _

theorem placeRestart_checkLaw (s : State) (kind : RestartKind) (da db : Nat) : (s.placeRestart kind da db).CheckLaw := by
  unfold State.placeRestart
  split_ifs
  · rw [writeRecord_eq]; rfl
  · rfl

/-- What a warm recovery resets stands outside the retained set, so the code placed with the RESTART record still matches. -/
theorem warmRecover_checkLaw (s : State) (kind : RestartKind) (reply : Reply) : (s.warmRecover kind reply).CheckLaw :=
  placeRestart_checkLaw ((s.interruptMove .A).interruptMove .B) kind s.a.queue.length s.b.queue.length

theorem recoverWarmReset_checkLaw (s : State) (passes : Bool) (kind : RestartKind) (reply : Reply) :
    (s.recoverWarmReset passes kind reply).CheckLaw := by
  cases passes
  · exact coldInit_checkLaw s .retainFault
  · exact warmRecover_checkLaw s kind reply

theorem Owned.checkLaw {c : Instr} {s t : State} (howned : Owned c s t) (h : s.CheckLaw) : t.CheckLaw := by
  cases howned with
  | changes hchanges => exact hchanges.kept.check h
  | queued x ms => exact (setQueue_kept s x _).check h
  | resumed na nb => rw [resume_eq]; cases na <;> cases nb <;> exact h
  | marked x m => exact (setMarks_kept s x _).check h
  | acked a => exact (serveFreedSpace_kept _).check (seal_checkLaw _)
  | profile i p => exact seal_checkLaw _
  | station n st => exact seal_checkLaw _
  | settings cfg => exact h
  | events flags => exact h
  | coldFlag => exact h

/-- Settles O56: a change of the retained set is sealed where it is made, and nothing else touches the set or the code. -/
theorem stepsKeepTheCheckCode : Obligations.StepsKeepTheCheckCode := by
  intro s t h hstep
  obtain rfl | ⟨c, rest, heffect⟩ := step_effect hstep
  · exact h
  have hrest : State.CheckLaw { s with pending := rest } := h
  cases heffect with
  | changes hchanges => exact hchanges.kept.check hrest
  | acts _ hacts => exact hacts.lasting.check hrest
  | request bytes r _ howned => exact howned.checkLaw ((takeReports_acts _).lasting.check hrest)
  | linked l events => exact hrest
  | soft filler => exact recoverWarmReset_checkLaw _ _ _ _
  | release disturbed => exact recoverWarmReset_checkLaw _ _ _ _
  | cold => exact coldInit_checkLaw _ .powerOn
  | held p low a b _ ha hb => obtain rfl | rfl := ha <;> obtain rfl | rfl := hb <;> exact hrest
  | level low => exact hrest

end Sys2Proof.Machine
end

section
/-! SUPPORT. From an assertion of the emergency line that an engine has taken to its release the axis halts, and the engines' lines
follow the pins (chapter 5, R205). -/

namespace Sys2Proof.Machine

/-! ### An axis that halts goes on halting -/

theorem AxisUnit.Halting.congr {u v : AxisUnit} (h : u.Halting) (hstate : v.state = u.state) (hslot : v.slot = u.slot) : v.Halting := by
  rwa [AxisUnit.Halting, hstate, hslot]

theorem emergencyLaw_congr {u v : AxisUnit} (h : u.EmergencyLaw) (hstate : v.state = u.state) (hslot : v.slot = u.slot)
    (hlines : v.lines.emergency = true → u.lines.emergency = true) : v.EmergencyLaw :=
  fun hasserted => AxisUnit.Halting.congr (h (hlines hasserted)) hstate hslot

theorem AxisUnit.Halting.of_halted {u : AxisUnit} (h : u.state = .halted) : u.Halting := .inl h

/-- A change of one axis that goes on halting there goes on halting on both. -/
theorem halting_onAxis {s t : State} {x y : Axis} {f : AxisUnit → AxisUnit} (haxis : ∀ y, t.axis y = s.axis y)
    (hx : (s.axis x).Halting → (f (s.axis x)).Halting) (h : (s.axis y).Halting) : ((t.onAxis x f).axis y).Halting := by
  obtain rfl | rfl := axis_eq_or_other x y
  · rw [onAxis_axis, haxis]; exact hx h
  · rwa [onAxis_axis_other, haxis]

theorem unblockFlushed_of_ne {s : State} {x : Axis} (h : (s.axis x).state ≠ .blocked) : s.unblockFlushed x = s := by
  simp [State.unblockFlushed, h]

theorem Change.halting {s t : State} (hchange : Change s t) (hcore : s.CoreLaws) {y : Axis} (h : (s.axis y).Halting) :
    (t.axis y).Halting := by
  cases hchange with
  | event e => exact setEvent_axis s e y ▸ h
  | offer e => exact offerRecord_axis s e y ▸ h
  | gap => exact writeGap_axis s y ▸ h
  | counter x n p =>
    have heq : (s.onAxis x (fun u => { u with stepEdges := n })).onAxis x (fun u => { u with position := p }) =
        s.onAxis x (fun u => { u with stepEdges := n, position := p }) := onAxis_onAxis ..
    rw [State.setCounter, heq, seal_axis]
    exact halting_onAxis (fun _ => rfl) (fun h => h.congr rfl rfl) h
  | marks x ms => exact halting_onAxis (f := fun u => { u with marks := ms }) (fun _ => rfl) (fun h => h.congr rfl rfl) h
  | emptied x =>
    obtain rfl | rfl := axis_eq_or_other x y
    · have hne : ((s.setQueue y []).axis y).state ≠ .blocked := by
        rw [setQueue_axis]
        obtain hs | hs := h.state <;> simp [hs]
      rw [unblockFlushed_of_ne hne, setQueue_axis]
      exact h.congr rfl rfl
    · rwa [unblockFlushed_axis_other, setQueue_axis_other]
  | within x f hwithin => exact halting_onAxis (fun _ => rfl) hwithin.halting h
  | ends x sl e st _ _ hstate =>
    rw [State.setSlot, State.setAxisState, onAxis_onAxis]
    refine halting_onAxis (convertReservation_axis s e) (fun hx => ?_) h
    obtain rfl | ⟨-, hnot⟩ := hstate
    · exact .of_halted rfl
    · exact absurd hx hnot
  | halts x =>
    refine halting_onAxis (f := fun u => { u with state := .halted }) (fun z => ?_) (fun _ => .of_halted rfl) h
    split
    · exact leaveWaitList_axis s x z
    · rfl
  | joins x hidle =>
    refine halting_onAxis (f := fun u => { u with state := .blocked }) (forall_axis.2 ⟨rfl, rfl⟩) (fun hx => ?_) h
    exact absurd hx (not_halting hidle (by decide))
  | admitted x w m rest target _ _ hwait =>
    refine halting_onAxis (forall_axis.2 ⟨rfl, rfl⟩) (fun hx => ?_) h
    obtain ⟨hidle, -⟩ | hhead := hwait
    · exact absurd hx (not_halting hidle (by decide))
    · have hblocked := (hcore.waits x).1 (by simp [hhead])
      exact absurd hx (not_halting hblocked (by decide))
  | lapses x w =>
    have hsame : State.axis { s with journal := { s.journal with waitList := w } } y = s.axis y := by cases y <;> rfl
    exact hsame ▸ h

theorem Change.lines {s t : State} (hchange : Change s t) (y : Axis) : (t.axis y).lines = (s.axis y).lines := by
  have onAxis {s t : State} {x : Axis} {f : AxisUnit → AxisUnit} (haxis : ∀ y, t.axis y = s.axis y)
      (hf : (f (s.axis x)).lines = (s.axis x).lines) : ((t.onAxis x f).axis y).lines = (s.axis y).lines := by
    obtain rfl | rfl := axis_eq_or_other x y
    · rw [onAxis_axis, haxis, hf]
    · rw [onAxis_axis_other, haxis]
  cases hchange with
  | event e => rw [setEvent_axis]
  | offer e => rw [offerRecord_axis]
  | gap => rw [writeGap_axis]
  | counter x n p =>
    rw [State.setCounter, seal_axis, onAxis_onAxis]
    exact onAxis (fun _ => rfl) rfl
  | marks x ms => exact onAxis (f := fun u => { u with marks := ms }) (fun _ => rfl) rfl
  | emptied x =>
    have hqueue : ((s.setQueue x []).axis y).lines = (s.axis y).lines :=
      onAxis (f := fun u => { u with queue := [] }) (fun _ => rfl) rfl
    unfold State.unblockFlushed
    split
    · have hleft : ((((s.setQueue x []).leaveWaitList x).setAxisState x .idle).axis y).lines = ((s.setQueue x []).axis y).lines :=
        onAxis (f := fun u => { u with state := .idle }) (leaveWaitList_axis _ x) rfl
      exact hleft.trans hqueue
    · exact hqueue
  | within x f hwithin => exact onAxis (fun _ => rfl) hwithin.lines
  | ends x sl e st =>
    rw [State.setSlot, State.setAxisState, onAxis_onAxis]
    exact onAxis (convertReservation_axis s e) rfl
  | halts x =>
    refine onAxis (f := fun u => { u with state := .halted }) (fun z => ?_) rfl
    split
    · exact leaveWaitList_axis s x z
    · rfl
  | joins x => exact onAxis (f := fun u => { u with state := .blocked }) (forall_axis.2 ⟨rfl, rfl⟩) rfl
  | admitted x w m rest target => exact onAxis (forall_axis.2 ⟨rfl, rfl⟩) rfl
  | lapses x w => cases y <;> rfl

theorem State.Changes.lines {s t : State} (h : s.Changes t) (y : Axis) : (t.axis y).lines = (s.axis y).lines :=
  h.lift (P := fun s t => (t.axis y).lines = (s.axis y).lines) (fun _ => rfl) (fun h k => k.trans h) (fun h => h.lines y)

theorem State.Changes.halting {s t : State} (h : s.Changes t) (hcore : s.CoreLaws) {y : Axis} (hy : (s.axis y).Halting) :
    (t.axis y).Halting := by
  have hboth : s.CoreLaws ∧ (s.axis y).Halting → t.CoreLaws ∧ (t.axis y).Halting :=
    h.keeps (P := fun s => s.CoreLaws ∧ (s.axis y).Halting) fun hchange h => ⟨hchange.coreLaws h.1, hchange.halting h.1 h.2⟩
  exact (hboth ⟨hcore, hy⟩).2

/-! ### An assertion of the emergency line halts the axis (R103, R104) -/

theorem endMove_axis_halting {s : State} {x : Axis} {sl : Slot} (kind : RecordKind) (cause : Cause) {after : AfterAction}
    (hslot : (s.axis x).slot = some sl) (hafter : after ≠ .proceed) : ((s.endMove x kind cause after).axis x).Halting := by
  refine .of_halted ?_
  simp only [State.endMove, hslot]
  cases after with
  | proceed => exact absurd rfl hafter
  | halt => simp [State.moveOn]
  | flush =>
    simp only [State.moveOn, setEvent_axis, State.flushQueue]
    split
    · simp
    · rw [offerRecord_axis, unblockFlushed_of_ne (by simp)]
      simp

theorem AfterAction.merge_halt_ne (p : AfterAction) : p.merge .halt ≠ .proceed := by cases p <;> decide

theorem takeStop_halting {s : State} {x : Axis} {sl : Slot} (style : Style) (cause : Cause) (hslot : (s.axis x).slot = some sl)
    (hholds : (s.axis x).state.holdsMove = true) : ((s.takeStop x ⟨style, cause, .halt⟩).axis x).Halting := by
  simp only [State.takeStop, hslot]
  split
  next => exact endMove_axis_halting _ cause hslot (fun _ => by contradiction)
  next =>
    split
    · refine .inr ⟨by simp, fun z hz => ?_⟩
      simp only [setAxisState_axis, setSlot_axis, Option.mem_def, Option.some.injEq] at hz
      subst hz
      simp [Slot.descend, Slot.rescale, Slot.pendingStop]
    · exact endMove_axis_halting _ cause hslot (fun _ => by contradiction)
  next hstopping =>
    split
    · exact endMove_axis_halting _ _ hslot (AfterAction.merge_halt_ne _)
    · refine .inr ⟨by simpa using hstopping, fun z hz => ?_⟩
      simp only [setSlot_axis, Option.mem_def, Option.some.injEq] at hz
      subst hz
      exact AfterAction.merge_halt_ne _
  all_goals next hstate => rw [hstate] at hholds; cases hholds

theorem emergencyStop_halting {s : State} (x : Axis) (hcore : s.CoreLaws) : ((s.emergencyStop x).axis x).Halting := by
  have hhalt : ((s.haltWithoutMove x .emergency false).axis x).Halting := by
    refine .of_halted ?_
    simp [State.haltWithoutMove]
  have hstop (hholds : (s.axis x).state.holdsMove = true) :
      ((s.takeStop x ⟨s.settings.emergencyStyle, .emergency, .halt⟩).axis x).Halting := by
    have hslot := hcore.slot x
    rw [AxisUnit.SlotLaw, hholds] at hslot
    obtain ⟨sl, hsl⟩ := Option.isSome_iff_exists.1 hslot
    exact takeStop_halting _ _ hsl hholds
  cases hstate : (s.axis x).state <;> simp only [State.emergencyStop, hstate]
  case idle => exact hhalt
  case blocked => exact hhalt
  case armed => exact hstop (by rw [hstate]; rfl)
  case running => exact hstop (by rw [hstate]; rfl)
  case stopping => exact hstop (by rw [hstate]; rfl)
  case halted => exact .of_halted hstate

/-! ### What the engines hear (R205) -/

/-- The laws of the emergency line and of the levels, with the laws of the axes that they lean on. -/
structure State.HearingLaws (s : State) : Prop where
  core : s.CoreLaws
  emergency : ∀ y, (s.axis y).EmergencyLaw
  lines : s.power = .running → ∀ y, (s.axis y).LineLaw (s.pins.lines y)

theorem lineLaw_iff (s : State) : s.LineLaw ↔ (s.power = .running → ∀ y, (s.axis y).LineLaw (s.pins.lines y)) := by
  simp only [State.LineLaw, forall_axis (P := fun y => (s.axis y).LineLaw (s.pins.lines y)), axis_A, axis_B]

theorem State.Changes.emergencyLaw {s t : State} (h : s.Changes t) (hcore : s.CoreLaws) {y : Axis} (hy : (s.axis y).EmergencyLaw) :
    (t.axis y).EmergencyLaw := by
  rw [emergencyLaw_iff, h.lines y]
  exact fun hasserted => h.halting hcore (hy hasserted)

theorem State.Changes.hearingLaws {s t : State} (hchanges : s.Changes t) (h : s.HearingLaws) : t.HearingLaws where
  core := hchanges.coreLaws h.core
  emergency y := hchanges.emergencyLaw h.core (h.emergency y)
  lines hpower y := by
    have hkept := hchanges.kept
    rw [AxisUnit.LineLaw, hchanges.lines y, hkept.reports y, hkept.pins]
    exact h.lines (hkept.power ▸ hpower) y

/-- A part with the axes' states, slots, lines and reports, the pins and the power of another has its laws of hearing. -/
theorem State.HearingLaws.of_same {s t : State} (h : s.HearingLaws) (hcore : t.CoreLaws)
    (haxis : ∀ y, (t.axis y).state = (s.axis y).state ∧ (t.axis y).slot = (s.axis y).slot ∧ (t.axis y).lines = (s.axis y).lines ∧
      (t.axis y).reports = (s.axis y).reports) (hpins : t.pins = s.pins) (hpower : t.power = s.power) : t.HearingLaws where
  core := hcore
  emergency y := by
    obtain ⟨hstate, hslot, hlines, -⟩ := haxis y
    exact emergencyLaw_congr (h.emergency y) hstate hslot fun hasserted => hlines ▸ hasserted
  lines hrunning y := by
    obtain ⟨-, -, hlines, hreports⟩ := haxis y
    rw [AxisUnit.LineLaw, hlines, hreports, hpins]
    exact h.lines (hpower ▸ hrunning) y

theorem setLines_coreLaws {s : State} (x : Axis) (l : Lines) (h : s.CoreLaws) : (s.setLines x l).CoreLaws :=
  h.onAxis (f := fun u => { u with lines := l }) (h.slot x) (h.phase x) (h.blocked x) rfl .rfl

theorem setReports_coreLaws {s : State} (x : Axis) (rs : List Report) (h : s.CoreLaws) : (s.setReports x rs).CoreLaws :=
  h.onAxis (f := fun u => { u with reports := rs }) (h.slot x) (h.phase x) (h.blocked x) rfl .rfl

theorem takeReport_changes (s : State) (x : Axis) (r : Report) :
    (s.setLines x ((s.axis x).lines.report r)).Changes (s.takeReport x r) := by
  cases r with
  | emergency v =>
    simp only [State.takeReport, State.takeEmergency]
    split
    · exact emergencyStop_changes _ x
    · exact .refl
  | sync h =>
    simp only [State.takeReport, State.takeSync]
    split
    · exact syncEdge_changes _ x
    · exact .refl

/-- An engine that takes an assertion halts its axis; one that takes anything else keeps what it has (R103 to R105). -/
theorem takeReport_emergencyLaw {s : State} (x : Axis) (r : Report) (hcore : s.CoreLaws) (h : ∀ y, (s.axis y).EmergencyLaw) (y : Axis) :
    ((s.takeReport x r).axis y).EmergencyLaw := by
  obtain rfl | rfl := axis_eq_or_other x y
  · cases r with
    | emergency v =>
      have hlined := setLines_coreLaws y ((s.axis y).lines.report (.emergency v)) hcore
      have hlines := (takeReport_changes s y (.emergency v)).lines y
      rw [setLines_axis] at hlines
      rw [emergencyLaw_iff, hlines]
      rintro rfl
      simp only [State.takeReport, State.takeEmergency]
      split
      next => exact emergencyStop_halting y hlined
      next hheld =>
        have hasserted : (s.axis y).lines.emergency = true := by simpa using hheld
        rw [setLines_axis]
        exact AxisUnit.Halting.congr (h y hasserted) rfl rfl
    | sync v =>
      refine (takeReport_changes s y (.sync v)).emergencyLaw (setLines_coreLaws y _ hcore) ?_
      rw [setLines_axis]
      exact emergencyLaw_congr (h y) rfl rfl id
  · rw [takeReport_axis_other]; exact h x.other

/-! ### The order of reports of different lines does not matter to the levels -/

theorem report_comm : ∀ {q r : Report}, r.sameLine q = false → ∀ l : Lines, (l.report r).report q = (l.report q).report r
  | .emergency _, .sync _, _, _ => rfl
  | .sync _, .emergency _, _, _ => rfl

theorem foldl_report_comm {q : Report} {pre : List Report} (h : ∀ r ∈ pre, r.sameLine q = false) (l : Lines) :
    pre.foldl Lines.report (l.report q) = (pre.foldl Lines.report l).report q := by
  induction pre generalizing l with
  | nil => rfl
  | cons r rest ih =>
    obtain ⟨hr, hrest⟩ := List.forall_mem_cons.1 h
    rw [List.foldl_cons, List.foldl_cons, ← report_comm hr, ih hrest]

/-- What the oldest report of a line is among the others. -/
theorem oldest_eq_some {r q : Report} {rs rest : List Report} (h : r.oldest rs = some (q, rest)) :
    ∃ pre post, rs = pre ++ q :: post ∧ rest = pre ++ post ∧ (∀ k ∈ pre, k.sameLine r = false) ∧ q.sameLine r = true := by
  induction rs generalizing rest with
  | nil => cases h
  | cons k ks ih =>
    unfold Report.oldest at h
    split at h
    next hk =>
      obtain ⟨rfl, rfl⟩ := Prod.mk.inj (Option.some.inj h)
      exact ⟨[], ks, rfl, rfl, nofun, hk⟩
    next hk =>
      obtain ⟨⟨q', rest'⟩, hrest, hpair⟩ := Option.map_eq_some_iff.1 h
      obtain ⟨rfl, rfl⟩ := Prod.mk.inj hpair
      obtain ⟨pre, post, rfl, rfl, hpre, hq⟩ := ih hrest
      exact ⟨k :: pre, post, rfl, rfl, List.forall_mem_cons.2 ⟨Bool.eq_false_iff.2 hk, hpre⟩, hq⟩

theorem sameLine_congr : ∀ {q r : Report}, q.sameLine r = true → ∀ k : Report, k.sameLine q = k.sameLine r
  | .emergency _, .emergency _, _, k => by cases k <;> rfl
  | .sync _, .sync _, _, k => by cases k <;> rfl

/-- An engine takes a report that none of its line stands before. -/
theorem takeReport_hearingLaws {s : State} {x : Axis} {pre post : List Report} {q : Report}
    (hreports : (s.axis x).reports = pre ++ q :: post) (hpre : ∀ k ∈ pre, k.sameLine q = false) (h : s.HearingLaws) :
    ((s.setReports x (pre ++ post)).takeReport x q).HearingLaws := by
  have hcore := setReports_coreLaws x (pre ++ post) h.core
  have hchanges := takeReport_changes (s.setReports x (pre ++ post)) x q
  have hkept := hchanges.kept
  refine ⟨hchanges.coreLaws (setLines_coreLaws x _ hcore), takeReport_emergencyLaw x q hcore fun y => ?_, fun hpower y => ?_⟩
  · obtain rfl | rfl := axis_eq_or_other x y
    · rw [setReports_axis]; exact emergencyLaw_congr (h.emergency y) rfl rfl id
    · rw [setReports_axis_other]; exact h.emergency x.other
  · have hrunning : s.power = .running := by rw [hkept.power] at hpower; simpa [State.setLines] using hpower
    have hpins : ((s.setReports x (pre ++ post)).takeReport x q).pins = s.pins := by rw [hkept.pins]; simp [State.setLines]
    obtain rfl | rfl := axis_eq_or_other x y
    · rw [AxisUnit.LineLaw, hchanges.lines y, hkept.reports y, hpins, ← h.lines hrunning y, hreports, setLines_axis, setReports_axis]
      simp only [List.foldl_append, List.foldl_cons]
      rw [foldl_report_comm hpre]
    · rw [takeReport_axis_other, setReports_axis_other, hpins]
      exact h.lines hrunning x.other

theorem takeLine_hearingLaws {s : State} (x : Axis) (r : Report) (h : s.HearingLaws) : (s.takeLine x r).HearingLaws := by
  unfold State.takeLine
  split
  next => exact h
  next q rest holdest =>
    obtain ⟨pre, post, hreports, rfl, hpre, hq⟩ := oldest_eq_some holdest
    exact takeReport_hearingLaws hreports (fun k hk => (sameLine_congr hq k).trans (hpre k hk)) h

theorem takeLines_hearingLaws (x : Axis) (r : Report) (n : Nat) {s : State} (h : s.HearingLaws) : (s.takeLines x r n).HearingLaws := by
  induction n generalizing s with
  | zero => exact h
  | succ n ih => exact ih (takeLine_hearingLaws x r h)

theorem takeFront_hearingLaws {s : State} (x : Axis) (h : s.HearingLaws) : (s.takeFront x).HearingLaws := by
  unfold State.takeFront
  split
  next => exact h
  next r rest hreports => exact takeReport_hearingLaws (pre := []) hreports nofun h

theorem takeFronts_hearingLaws (x : Axis) (n : Nat) {s : State} (h : s.HearingLaws) : (s.takeFronts x n).HearingLaws := by
  induction n generalizing s with
  | zero => exact h
  | succ n ih => exact ih (takeFront_hearingLaws x h)

theorem takeReports_hearingLaws {s : State} (h : s.HearingLaws) : s.takeReports.HearingLaws :=
  takeFronts_hearingLaws .B _ (takeFronts_hearingLaws .A _ h)

theorem lines_report (p : Pins) (r : Report) (y : Axis) : (p.report r).lines y = (p.lines y).report r := by
  cases r <;> cases y <;> rfl

theorem lineChanges_hearingLaws {s : State} (r : Report) (h : s.HearingLaws) : (s.lineChanges r).HearingLaws where
  core := by
    have hpins : (s.movePin r).CoreLaws := h.core.of_same_axes (movePin_axis s r) rfl rfl h.core.capacity
    exact setReports_coreLaws .B _ (setReports_coreLaws .A _ hpins)
  emergency y := by
    rw [lineChanges_axis]; exact emergencyLaw_congr (h.emergency y) rfl rfl id
  lines hpower y := by
    rw [lineChanges_axis, AxisUnit.LineLaw, List.foldl_append, lineChanges_pins, lines_report, ← h.lines hpower y]
    rfl

theorem HearingLaws.of_pins {s : State} (p : Pins) (hpower : s.power ≠ .running) (h : s.HearingLaws) :
    State.HearingLaws { s with pins := p } where
  core := h.core.of_same_axes (forall_axis.2 ⟨rfl, rfl⟩) rfl rfl h.core.capacity
  emergency := forall_axis.2 ⟨h.emergency .A, h.emergency .B⟩
  lines hrunning := absurd hrunning hpower

theorem live_iff (s : State) : s.live = true ↔ s.power = .running := beq_iff_eq

theorem report_hearingLaws {s : State} (x : Axis) (r : Report) (h : s.HearingLaws) : (s.report x r).HearingLaws := by
  unfold State.report
  split_ifs with hlive
  · exact takeLines_hearingLaws x r _ h
  · exact h
  · exact takeLines_hearingLaws x r _ (lineChanges_hearingLaws r h)
  · exact HearingLaws.of_pins _ (fun hrunning => hlive ((live_iff s).2 hrunning)) h

/-! ### An axis's own lines -/

/-- A change of levels that is not of a shared line. -/
structure Unshared (f : Lines → Lines) : Prop where
  report : ∀ l r, f (Lines.report l r) = (f l).report r
  emergency : ∀ l, (f l).emergency = l.emergency

theorem Unshared.foldl {f : Lines → Lines} (hf : Unshared f) (rs : List Report) (l : Lines) :
    rs.foldl Lines.report (f l) = f (rs.foldl Lines.report l) := by
  induction rs generalizing l with
  | nil => rfl
  | cons r rest ih => rw [List.foldl_cons, List.foldl_cons, ← hf.report, ih]

theorem unshared_setLimit (side : Direction) (v : Bool) : Unshared (fun l => l.setLimit side v) where
  report l r := by cases side <;> cases r <;> rfl
  emergency l := by cases side <;> rfl

theorem unshared_home (v : Bool) : Unshared (fun l => { l with home := v }) where
  report l r := by cases r <;> rfl
  emergency _ := rfl

/-- A pin of an axis's own moves, and its engine takes the level at once. -/
theorem switched_hearingLaws {s : State} {x : Axis} {w : Switches} {f : Lines → Lines} (hf : Unshared f)
    (hx : (s.pins.setSwitches x w).lines x = f (s.pins.lines x)) (h : s.HearingLaws) :
    (State.setLines { s with pins := s.pins.setSwitches x w } x (f (s.axis x).lines)).HearingLaws := by
  have haxis : ∀ y, State.axis { s with pins := s.pins.setSwitches x w } y = s.axis y := forall_axis.2 ⟨rfl, rfl⟩
  have hother : (s.pins.setSwitches x w).lines x.other = s.pins.lines x.other := by cases x <;> rfl
  refine ⟨setLines_coreLaws x _ (h.core.of_same_axes haxis rfl rfl h.core.capacity), fun y => ?_, fun hpower y => ?_⟩
  · obtain rfl | rfl := axis_eq_or_other x y
    · rw [setLines_axis, haxis]
      exact emergencyLaw_congr (h.emergency y) rfl rfl fun hasserted => (hf.emergency _).symm.trans hasserted
    · rw [setLines_axis_other, haxis]; exact h.emergency x.other
  · rw [setLines_power] at hpower
    rw [setLines_pins]
    obtain rfl | rfl := axis_eq_or_other x y
    · rw [setLines_axis, haxis, AxisUnit.LineLaw, hf.foldl, hx, ← h.lines hpower y]
    · rw [setLines_axis_other, haxis, hother]; exact h.lines hpower x.other

theorem setLimitLine_hearingLaws {s : State} (x : Axis) (side : Direction) (v : Bool) (h : s.HearingLaws) :
    ((s.setLimitPin x side v).setLimitLine x side v).HearingLaws := by
  have haxis : (s.setLimitPin x side v).axis x = s.axis x := by cases x <;> rfl
  rw [State.setLimitLine, haxis]
  exact switched_hearingLaws (unshared_setLimit side v) (by cases x <;> cases side <;> rfl) h

theorem setHomeLine_hearingLaws {s : State} (x : Axis) (v : Bool) (h : s.HearingLaws) :
    ((s.setHomePin x v).setHomeLine x v).HearingLaws := by
  have haxis : (s.setHomePin x v).axis x = s.axis x := by cases x <;> rfl
  rw [State.setHomeLine, haxis]
  exact switched_hearingLaws (unshared_home v) (by cases x <;> rfl) h

/-- A limit line already asserted stays so when its pin is asserted again (log 9). -/
theorem setLimitLine_of_asserted {s : State} {x : Axis} {side : Direction} (h : (s.axis x).lines.limit side = true) :
    (s.setLimitPin x side true).setLimitLine x side true = s.setLimitPin x side true := by
  have hsame : (s.axis x).lines.setLimit side true = (s.axis x).lines := by
    cases side <;> simp only [Lines.limit] at h <;> simp only [Lines.setLimit, ← h]
  have haxis : (s.setLimitPin x side true).axis x = s.axis x := by cases x <;> rfl
  rw [State.setLimitLine, haxis, hsame, ← haxis, setLines_self]

theorem setHomeLine_of_asserted {s : State} {x : Axis} (h : (s.axis x).lines.home = true) :
    (s.setHomePin x true).setHomeLine x true = s.setHomePin x true := by
  have hsame : { (s.axis x).lines with home := true } = (s.axis x).lines := by simp only [← h]
  have haxis : (s.setHomePin x true).axis x = s.axis x := by cases x <;> rfl
  rw [State.setHomeLine, haxis, hsame, ← haxis, setLines_self]

theorem exec_movesLine_hearingLaws {c : Instr} {s t : State} (hc : movesLine c = true) (hexec : exec c s = .next t)
    (h : s.HearingLaws) : t.HearingLaws := by
  have done {u : State} (hu : u.HearingLaws) (heq : Host.Outcome.next u = (.next t : Host.Outcome State Fault Refusal)) : t.HearingLaws :=
    Host.Outcome.next.inj heq ▸ hu
  have dead (hlive : ¬s.live = true) : s.power ≠ .running := fun hrunning => hlive ((live_iff s).2 hrunning)
  cases c with
  | syncFallingEdge x => exact done (report_hearingLaws x _ h) hexec
  | syncHigh x => exact done (report_hearingLaws x _ h) hexec
  | emergencyAssert x => exact done (report_hearingLaws x _ h) hexec
  | emergencyRelease x => exact done (report_hearingLaws x _ h) hexec
  | limitAssert x side =>
    have hswitched := setLimitLine_hearingLaws x side true h
    simp only [exec, execLimitAssert] at hexec
    split_ifs at hexec with hlive hasserted
    · exact done (setLimitLine_of_asserted hasserted ▸ hswitched) hexec
    · exact done ((limitStop_changes _ x side).hearingLaws hswitched) hexec
    · exact done (HearingLaws.of_pins _ (dead hlive) h) hexec
  | limitRelease x side =>
    simp only [exec, execLimitRelease] at hexec
    split_ifs at hexec with hlive
    · exact done (setLimitLine_hearingLaws x side false h) hexec
    · exact done (HearingLaws.of_pins _ (dead hlive) h) hexec
  | homeAssert x =>
    have hswitched := setHomeLine_hearingLaws x true h
    simp only [exec, execHomeAssert] at hexec
    split_ifs at hexec with hlive hasserted
    · exact done (setHomeLine_of_asserted hasserted ▸ hswitched) hexec
    · exact done ((homeFound_changes _ x).hearingLaws hswitched) hexec
    · exact done (HearingLaws.of_pins _ (dead hlive) h) hexec
  | homeRelease x =>
    simp only [exec, execHomeRelease] at hexec
    split_ifs at hexec with hlive
    · exact done (setHomeLine_hearingLaws x false h) hexec
    · exact done (HearingLaws.of_pins _ (dead hlive) h) hexec
  | _ => cases hc

/-! ### Requests, recoveries and holds -/

/-- With the reports taken, an engine's emergency level is the pin's (R205). -/
theorem emergency_of_taken {s : State} (htaken : s.reportsTaken = true) (hrunning : s.power = .running) (h : s.HearingLaws) (y : Axis) :
    (s.axis y).lines.emergency = s.pins.emergency := by
  obtain ⟨ha, hb⟩ := (reportsTaken_iff s).1 htaken
  have hnil : (s.axis y).reports = [] := by cases y <;> [exact ha; exact hb]
  have hlines := h.lines hrunning y
  rw [AxisUnit.LineLaw, hnil, List.foldl_nil] at hlines
  rw [hlines]
  rfl

theorem Owned.hearingLaws {c : Instr} {s t : State} (howned : Owned c s t) (htaken : s.reportsTaken = true)
    (hrunning : s.power = .running) (hengine : t.CoreLaws) (h : s.HearingLaws) : t.HearingLaws := by
  have onAxis {x : Axis} {f : AxisUnit → AxisUnit} (hcore : (s.onAxis x f).CoreLaws) (hf : (f (s.axis x)).state = (s.axis x).state ∧
      (f (s.axis x)).slot = (s.axis x).slot ∧ (f (s.axis x)).lines = (s.axis x).lines ∧ (f (s.axis x)).reports = (s.axis x).reports) :
      (s.onAxis x f).HearingLaws := by
    refine h.of_same hcore (fun y => ?_) (onAxis_pins s x f) (onAxis_power s x f)
    obtain rfl | rfl := axis_eq_or_other x y
    · rw [onAxis_axis]; exact hf
    · rw [onAxis_axis_other]; exact ⟨rfl, rfl, rfl, rfl⟩
  have same {t : State} (hcore : t.CoreLaws) (haxis : ∀ y, t.axis y = s.axis y) (hpins : t.pins = s.pins) (hpower : t.power = s.power) :
      t.HearingLaws := h.of_same hcore (fun y => by rw [haxis]; exact ⟨rfl, rfl, rfl, rfl⟩) hpins hpower
  cases howned with
  | changes hchanges => exact hchanges.hearingLaws h
  | queued x ms => exact onAxis hengine ⟨rfl, rfl, rfl, rfl⟩
  | marked x m => exact onAxis hengine ⟨rfl, rfl, rfl, rfl⟩
  | resumed na nb hfree =>
    have hreleased (y : Axis) : (s.axis y).lines.emergency = false := (emergency_of_taken htaken hrunning h y).trans hfree
    rw [resume_eq] at hengine ⊢
    refine ⟨hengine, forall_axis.2 ⟨?_, ?_⟩, fun hpower => forall_axis.2 ⟨?_, ?_⟩⟩
    · have ha : s.a.lines.emergency = false := hreleased .A
      intro hasserted
      cases na <;> exact absurd (ha.symm.trans hasserted) (by decide)
    · have hb : s.b.lines.emergency = false := hreleased .B
      intro hasserted
      cases nb <;> exact absurd (hb.symm.trans hasserted) (by decide)
    · cases na <;> exact h.lines hpower .A
    · cases nb <;> exact h.lines hpower .B
  | profile i p => exact same hengine (forall_axis.2 ⟨rfl, rfl⟩) rfl rfl
  | station n st => exact same hengine (forall_axis.2 ⟨rfl, rfl⟩) rfl rfl
  | settings cfg => exact same hengine (forall_axis.2 ⟨rfl, rfl⟩) rfl rfl
  | events flags => exact same hengine (forall_axis.2 ⟨rfl, rfl⟩) rfl rfl
  | coldFlag => exact same hengine (forall_axis.2 ⟨rfl, rfl⟩) rfl rfl
  | acked a =>
    have hremoved : (s.removeThrough a).CoreLaws :=
      h.core.of_same_axes (fun y => setJournal_axis s _ y) rfl rfl (capacityLaw_drop _ h.core.capacity)
    exact (serveFreedSpace_changes _).hearingLaws (same hremoved (forall_axis.2 ⟨rfl, rfl⟩) rfl rfl)

theorem recovered_emergencyLaw (u : AxisUnit) (l : Lines) (p : Word) : (u.recovered l p).EmergencyLaw := by
  rw [emergencyLaw_iff]
  exact fun hasserted => .of_halted (if_pos hasserted)

/-- Every line is reported as it stands when a recovery ends (R70). -/
theorem recoverVolatile_hearing (s : State) (pa pb : Word) (reply : Reply) :
    (∀ y, ((s.recoverVolatile pa pb reply).axis y).EmergencyLaw) ∧ (s.recoverVolatile pa pb reply).LineLaw :=
  ⟨forall_axis.2 ⟨recovered_emergencyLaw _ _ _, recovered_emergencyLaw _ _ _⟩, fun _ => ⟨rfl, rfl⟩⟩

theorem recoverWarmReset_hearing (s : State) (passes : Bool) (kind : RestartKind) (reply : Reply) :
    (∀ y, ((s.recoverWarmReset passes kind reply).axis y).EmergencyLaw) ∧ (s.recoverWarmReset passes kind reply).LineLaw := by
  cases passes
  · exact recoverVolatile_hearing s 0#32 0#32 Reply.restarted
  · exact recoverVolatile_hearing _ _ _ _

theorem stopPulses_emergencyLaw {u : AxisUnit} (h : u.EmergencyLaw) : u.stopPulses.EmergencyLaw := by
  intro hasserted
  refine (h hasserted).imp_right fun ⟨hstate, hstop⟩ => ⟨hstate, fun z hz => ?_⟩
  obtain ⟨sl, hsl, rfl⟩ := Option.map_eq_some_iff.1 hz
  exact hstop sl hsl

theorem State.HearingLaws.laws {s : State} (h : s.HearingLaws) : (∀ y, (s.axis y).EmergencyLaw) ∧ s.LineLaw :=
  ⟨h.emergency, (lineLaw_iff s).2 h.lines⟩

theorem exec_hearing {c : Instr} {s t : State} (hexec : exec c s = .next t) (hengine : s.EngineLaws) (h : s.HearingLaws) :
    (∀ y, (t.axis y).EmergencyLaw) ∧ t.LineLaw := by
  cases exec_effect hexec with
  | changes hchanges => exact (hchanges.hearingLaws h).laws
  | acts hc => exact (exec_movesLine_hearingLaws hc hexec h).laws
  | request bytes r htakes howned =>
    have htaken := takeReports_hearingLaws h
    have howner := (engineLaws_iff _).1 (howned.engineLaws ((takeReports_acts s).engineLaws hengine))
    have hrunning : s.takeReports.power = .running := (takeReports_acts s).lasting.power.trans ((linkTakes_iff s).1 htakes).1
    obtain ⟨hemergency, hlines⟩ := (howned.hearingLaws (takeReports_reportsTaken s) hrunning howner.1 htaken).laws
    exact ⟨forall_axis.2 ⟨hemergency .A, hemergency .B⟩, hlines⟩
  | linked l events => exact ⟨forall_axis.2 ⟨h.emergency .A, h.emergency .B⟩, h.laws.2⟩
  | soft filler => exact recoverWarmReset_hearing _ _ _ _
  | release disturbed => exact recoverWarmReset_hearing _ _ _ _
  | cold => exact recoverVolatile_hearing s 0#32 0#32 Reply.restarted
  | held p low a b hp ha hb =>
    refine ⟨forall_axis.2 ⟨?_, ?_⟩, fun hpower => absurd hpower hp⟩
    · obtain rfl | rfl := ha <;> [exact h.emergency .A; exact stopPulses_emergencyLaw (h.emergency .A)]
    · obtain rfl | rfl := hb <;> [exact h.emergency .B; exact stopPulses_emergencyLaw (h.emergency .B)]
  | level low => exact ⟨forall_axis.2 ⟨h.emergency .A, h.emergency .B⟩, h.laws.2⟩

/-- Settles O54: the emergency law and the line law hold each other up, since RESUME AXIS reads the pin and its axis the engine's level. -/
theorem stepsKeepTheEmergencyLaw : Obligations.StepsKeepTheEmergencyLaw := by
  intro s t hengine ha hb hlines hstep
  unfold step at hstep
  split at hstep
  next =>
    obtain rfl := Host.Outcome.next.inj hstep
    exact ⟨ha, hb, hlines⟩
  next c rest _ =>
    have hengine' : State.EngineLaws { s with pending := rest } := hengine.of_same rfl rfl rfl
    have hhearing : State.HearingLaws { s with pending := rest } :=
      ⟨((engineLaws_iff _).1 hengine').1, forall_axis.2 ⟨ha, hb⟩, (lineLaw_iff _).1 hlines⟩
    obtain ⟨hemergency, hlines'⟩ := exec_hearing hstep hengine' hhearing
    exact ⟨hemergency .A, hemergency .B, hlines'⟩

end Sys2Proof.Machine
end

section
/-! SUPPORT. The whole machine: every command completes, records are only added, every ending leaves its record, engines leave each other
alone, and what a warm recovery leaves (chapters 8 to 10, and 95). -/

namespace Sys2Proof.Machine

/-! ### The part right after power-on -/

/-- The part after power-on is a part cold initialisation leaves, with the lines at rest (logs 8, 19). -/
theorem reset_eq : State.reset = { State.reset.coldInit .powerOn with events := State.reset.events, link := State.reset.link } := rfl

/-- Settles O57: the part after power-on is one that cold initialisation leaves, but for its link. -/
theorem resetHasEveryLaw : Obligations.ResetHasEveryLaw := by
  have hsize : State.reset.link.SizeLaw := ⟨Nat.zero_le _, Nat.zero_le _⟩
  refine ⟨?engine, fun h => ?a, fun h => ?b, fun _ => ⟨rfl, rfl⟩, ?tables, rfl⟩
  case engine => exact (coldInit_engineLaws State.reset .powerOn).of_same rfl rfl rfl
  case a => cases h
  case b => cases h
  case tables =>
    obtain ⟨hrange, hthreshold, -⟩ := (tableLaws_iff _).1 (coldInit_tableLaws State.reset .powerOn)
    exact (tableLaws_iff _).2 ⟨hrange.of_same_axes (forall_axis.2 ⟨rfl, rfl⟩) hrange.records rfl, hthreshold, hsize⟩

/-! ### The records of a warm recovery (R149, R150, R169, R170) -/

theorem numbered_append (n : Half) (xs ys : List Entry) :
    numbered n (xs ++ ys) = numbered n xs ++ numbered (n + BitVec.ofNat 16 xs.length) ys := by
  induction xs generalizing n with
  | nil => simp [numbered]
  | cons e rest ih =>
    rw [List.cons_append, numbered, ih, numbered, List.cons_append, List.length_cons, BitVec.ofNat_add]
    ring_nf

theorem length_numbered (n : Half) (es : List Entry) : (numbered n es).length = es.length := by
  induction es generalizing n with
  | nil => rfl
  | cons e rest ih => rw [numbered, List.length_cons, List.length_cons, ih]

/-- An interruption writes its record and empties the slot, and touches nothing else (R170). -/
theorem interruptMove_eq (s : State) (x : Axis) : s.interruptMove x =
    { s.setSlot x none with
      journal := { s.journal with
        records := s.journal.records ++ numbered s.journal.seq (interruptedEntries x (s.axis x))
        seq := s.journal.seq + BitVec.ofNat 16 (interruptedEntries x (s.axis x)).length
        reserved := (s.interruptMove x).journal.reserved }
      check := (s.interruptMove x).check, events := (s.interruptMove x).events } := by
  cases hslot : (s.axis x).slot with
  | none =>
    have hsame : s.interruptMove x = s := by simp [State.interruptMove, hslot]
    simp [hsame, interruptedEntries, hslot, setSlot_self hslot, numbered]
  | some sl =>
    have hmove : s.interruptMove x =
        (s.convertReservation (Entry.terminal x sl (s.axis x).position .interrupted .reset false)).setSlot x none := by
      simp [State.interruptMove, hslot]
    rw [hmove, convertReservation_eq, writeRecord_eq]
    simp only [interruptedEntries, hslot, numbered]
    cases x <;> rfl

/-- The INTERRUPTED records of a warm recovery, A's first. -/
def State.interruptions (s : State) : List Entry := interruptedEntries .A s.a ++ interruptedEntries .B s.b

theorem interruptMoves_journal (s : State) :
    let u := (s.interruptMove .A).interruptMove .B
    u.journal.records = s.journal.records ++ numbered s.journal.seq s.interruptions ∧
      u.journal.seq = s.journal.seq + BitVec.ofNat 16 s.interruptions.length ∧ u.journal.lost = s.journal.lost := by
  have hjA := congrArg State.journal (interruptMove_eq s .A)
  have hjB := congrArg State.journal (interruptMove_eq (s.interruptMove .A) .B)
  have hother : (s.interruptMove .A).axis .B = s.axis .B := interruptMove_axis_other s .A
  dsimp only at hjA hjB ⊢
  rw [hother] at hjB
  refine ⟨?_, ?_, ?_⟩
  · rw [hjB]
    dsimp only
    rw [hjA, State.interruptions, numbered_append, ← List.append_assoc]
    rfl
  · rw [hjB]
    dsimp only
    rw [hjA, State.interruptions, List.length_append, BitVec.ofNat_add, ← add_assoc]
    rfl
  · rw [hjB]
    dsimp only
    rw [hjA]

/-- The RESTART record is placed in the journal alone (R149). -/
theorem placeRestart_eq (s : State) (kind : RestartKind) (da db : Nat) : s.placeRestart kind da db =
    { s with
      journal := { s.journal with
        records := (s.placeRestart kind da db).journal.records, seq := (s.placeRestart kind da db).journal.seq }
      check := (s.placeRestart kind da db).check, events := (s.placeRestart kind da db).events } := by
  unfold State.placeRestart
  split_ifs
  · rw [writeRecord_eq]; rfl
  · rfl

theorem placeRestart_of_room {s : State} (kind : RestartKind) (da db : Nat) (h : s.journal.records.length < Config.journalCapacity) :
    (s.placeRestart kind da db).journal.records =
        s.journal.records ++ [⟨s.journal.seq, Entry.restart kind (BitVec.ofNat 16 da) (BitVec.ofNat 16 db)⟩] ∧
      (s.placeRestart kind da db).journal.seq = s.journal.seq + 1#16 := by
  rw [State.placeRestart, if_pos h]
  exact ⟨writeRecord_records s _, writeRecord_seq s _⟩

theorem placeRestart_of_full {s : State} (kind : RestartKind) (da db : Nat) {pre : List Record} {r : Record}
    (h : Config.journalCapacity ≤ s.journal.records.length) (hrecords : s.journal.records = pre ++ [r]) :
    (s.placeRestart kind da db).journal.records = pre ++ [{ r with entry := r.entry.mergeRestart kind da db }] ∧
      (s.placeRestart kind da db).journal.seq = s.journal.seq := by
  rw [State.placeRestart, if_neg (Nat.not_lt.2 h), setJournal_journal, hrecords, mergeNewest_append_singleton]
  exact ⟨rfl, rfl⟩

theorem mergeRestart_eq {e : Entry} {da db : Half} (kind : RestartKind) (na nb : Nat) (h : e.extra = some (da, db)) :
    e.mergeRestart kind na nb = { e with
      small := kind.code
      pulses := if e.pulses = 0xFFFFFFFF#32 then 0xFFFFFFFF#32 else e.pulses + 1#32
      extra := some (BitVec.ofNat 16 (min (da.toNat + na) 65535), BitVec.ofNat 16 (min (db.toNat + nb) 65535)) } := by
  have hones : BitVec.allOnes 32 = 0xFFFFFFFF#32 := by decide
  simp only [Entry.mergeRestart, h, hones, Option.getD_some, saturate16, Config.countLimit]
  split_ifs with hfull
  · rw [hfull]
  · rfl

/-- The part before the volatile resets of a warm recovery: its moves interrupted, its RESTART record placed. -/
def State.restarted (s : State) (kind : RestartKind) : State :=
  ((s.interruptMove .A).interruptMove .B).placeRestart kind s.a.queue.length s.b.queue.length

theorem warmRecover_eq (s : State) (kind : RestartKind) (reply : Reply) : s.warmRecover kind reply =
    (s.restarted kind).clearClaims.recoverVolatile (s.restarted kind).a.position (s.restarted kind).b.position reply := rfl

/-- What reads neither slots nor journal, check code nor events is not changed before the volatile resets. -/
theorem restarted_same {α : Type} (f : State → α) (s : State) (kind : RestartKind)
    (hf : ∀ (u : State) j c e, f { u with journal := j, check := c, events := e } = f u)
    (hslot : ∀ (u : State) x, f (u.setSlot x none) = f u) : f (s.restarted kind) = f s := by
  have hmove (u : State) (x : Axis) : f (u.interruptMove x) = f u :=
    (congrArg f (interruptMove_eq u x)).trans ((hf _ _ _ _).trans (hslot u x))
  exact (congrArg f (placeRestart_eq ..)).trans ((hf _ _ _ _).trans ((hmove _ .B).trans (hmove s .A)))

theorem restarted_lost (s : State) (kind : RestartKind) : (s.restarted kind).journal.lost = s.journal.lost :=
  (congrArg (fun u => u.journal.lost) (placeRestart_eq ((s.interruptMove .A).interruptMove .B) kind _ _)).trans
    (interruptMoves_journal s).2.2

theorem entry_restart_eq (kind : RestartKind) (da db : Half) :
    Entry.restart kind da db = ⟨.restart, none, false, none, .none, kind.code, 1#32, 0#32, some (da, db)⟩ := rfl

/-- Settles O40: the records by the room that the interruptions leave, and every other register by what each part of the recovery
leaves alone. -/
theorem warmRecoveryReportsAndResets : Obligations.WarmRecoveryReportsAndResets := by
  rintro s t kind reply ints rfl rfl
  obtain ⟨hrecords, hseq, -⟩ := interruptMoves_journal s
  have hlength : ((s.interruptMove .A).interruptMove .B).journal.records.length = s.journal.records.length + s.interruptions.length := by
    rw [hrecords, List.length_append, length_numbered]
  refine ⟨⟨fun hroom => ?room, fun pre r da db hfull hpre hextra => ?full⟩, ?rest⟩
  case room =>
    obtain ⟨hplaced, hnext⟩ := placeRestart_of_room (s := (s.interruptMove .A).interruptMove .B) kind s.a.queue.length s.b.queue.length
      (hlength.trans_lt hroom)
    refine ⟨hplaced.trans ?_, hnext.trans ?_⟩
    · rw [hrecords, hseq, entry_restart_eq, numbered_append, ← List.append_assoc]
      rfl
    · rw [hseq, BitVec.ofNat_add, ← add_assoc]
      rfl
  case full =>
    obtain ⟨hplaced, hnext⟩ := placeRestart_of_full (s := (s.interruptMove .A).interruptMove .B) kind s.a.queue.length s.b.queue.length
      (hfull.trans hlength.ge) (hrecords.trans hpre)
    exact ⟨hplaced.trans (by rw [mergeRestart_eq kind _ _ hextra]), hnext.trans hseq⟩
  case rest =>
    have hpins := restarted_same State.pins s kind (fun _ _ _ _ => rfl) (fun u x => by simp)
    have hprofiles := restarted_same State.profiles s kind (fun _ _ _ _ => rfl) (fun u x => by simp)
    have hstations := restarted_same State.stations s kind (fun _ _ _ _ => rfl) (fun u x => by simp)
    have hcold := restarted_same State.coldFlag s kind (fun _ _ _ _ => rfl) (fun u x => by simp)
    have hlink := restarted_same State.link s kind (fun _ _ _ _ => rfl) (fun u x => by simp)
    have hpending := restarted_same State.pending s kind (fun _ _ _ _ => rfl) (fun u x => by simp)
    have hposA := restarted_same (fun u => u.a.position) s kind (fun _ _ _ _ => rfl) (fun u x => by cases x <;> rfl)
    have hposB := restarted_same (fun u => u.b.position) s kind (fun _ _ _ _ => rfl) (fun u x => by cases x <;> rfl)
    have hedgesA := restarted_same (fun u => u.a.stepEdges) s kind (fun _ _ _ _ => rfl) (fun u x => by cases x <;> rfl)
    have hedgesB := restarted_same (fun u => u.b.stepEdges) s kind (fun _ _ _ _ => rfl) (fun u x => by cases x <;> rfl)
    have hcheck : (s.warmRecover kind reply).seal = s.warmRecover kind reply := by
      have hlaw := warmRecover_checkLaw s kind reply
      rw [State.CheckLaw] at hlaw
      rw [State.seal, ← hlaw]
    refine hcheck.symm.trans (congrArg State.seal ?_)
    simp only [warmRecover_eq, State.recoverVolatile, State.clearClaims, AxisUnit.recovered, axisAfterReset, Link.recovered, linkAfterReset,
      hpins, hprofiles, hstations, hcold, hlink, hpending, hposA, hposB, hedgesA, hedgesB, restarted_lost]
    rfl

/-! ### Every command completes -/

/-- Every command but FRAME_REJECTED completes. -/
theorem exec_completes {c : Instr} (s : State) (hc : ∀ bytes, c ≠ .frameRejected bytes) : ∃ t, exec c s = .next t := by
  have branch {p : Prop} [Decidable p] (u v : State) : ∃ t, (if p then Host.Outcome.next u else .next v) =
      (.next t : Host.Outcome State Fault Refusal) := by
    split <;> exact ⟨_, rfl⟩
  cases c with
  | queueMoves sel moves filler =>
    simp only [exec, execQueueMoves]
    split_ifs <;> exact ⟨_, rfl⟩
  | softReset filler => exact branch _ _
  | frameRejected bytes => exact absurd rfl (hc bytes)
  | limitAssert x side =>
    simp only [exec, execLimitAssert]
    split_ifs <;> exact ⟨_, rfl⟩
  | limitRelease x side => exact branch _ _
  | homeAssert x =>
    simp only [exec, execHomeAssert]
    split_ifs <;> exact ⟨_, rfl⟩
  | homeRelease x => exact branch _ _
  | pinReset => exact branch _ _
  | pinResetRelease disturbed =>
    simp only [exec, execPinResetRelease]
    split <;> exact ⟨_, rfl⟩
  | powerOn => exact branch _ _
  | pulse x => exact branch _ _
  | dwellTimeout x => exact branch _ _
  | armTimeout x => exact branch _ _
  | admissionAttempt x => exact branch _ _
  | chipSelectFall => exact branch _ _
  | _ => exact ⟨_, rfl⟩

/-- FRAME_REJECTED completes where the link ignores the transaction, where it has no byte, and where a check fails (log 11). -/
theorem frameRejected_completes (bytes : List Byte) (s : State) : (∃ t, exec (.frameRejected bytes) s = .next t) ∨
    (bytes ≠ [] ∧ linkCheck (bytes.take 67) = none ∧ s.linkTakes = true ∧
      exec (.frameRejected bytes) s = .refused .frameNotRejected) := by
  simp only [exec, execFrameRejected]
  split_ifs with htakes hempty
  · exact .inl ⟨_, rfl⟩
  · split
    next => exact .inl ⟨_, rfl⟩
    next hnone => exact .inr ⟨hempty, hnone, htakes, rfl⟩
  · exact .inl ⟨_, rfl⟩

theorem Owned.pending {c : Instr} {s t : State} (howned : Owned c s t) : t.pending = s.pending := by
  cases howned with
  | changes hchanges => exact hchanges.kept.pending
  | queued x ms => exact setQueue_pending s x _
  | resumed na nb => rw [resume_eq]
  | marked x m => exact setMarks_pending s x _
  | acked a => exact (serveFreedSpace_kept _).pending
  | profile | station | settings | events | coldFlag => rfl

theorem recoverWarmReset_pending (s : State) (passes : Bool) (kind : RestartKind) (reply : Reply) :
    (s.recoverWarmReset passes kind reply).pending = s.pending := by
  cases passes
  · rfl
  · exact restarted_same State.pending s kind (fun _ _ _ _ => rfl) (fun u x => by simp)

theorem Effect.pending {c : Instr} {s t : State} (heffect : Effect c s t) : t.pending = s.pending := by
  cases heffect with
  | changes hchanges => exact hchanges.kept.pending
  | acts _ hacts => exact hacts.lasting.pending
  | request bytes r _ howned => exact howned.pending.trans (takeReports_acts s).lasting.pending
  | soft filler => exact (recoverWarmReset_pending _ _ _ _).trans (takeReports_acts s).lasting.pending
  | release disturbed => exact recoverWarmReset_pending _ _ _ _
  | linked | cold | held | level => rfl

/-- Settles O2: each command's arm completes, the one refusal apart, and no effect reaches the queue of commands. -/
theorem commandsCompleteAndLeaveTheQueue : Obligations.CommandsCompleteAndLeaveTheQueue := by
  intro c s
  have completes (h : ∃ t, exec c s = .next t) : ∃ t, exec c s = .next t ∧ t.pending = s.pending :=
    h.imp fun t ht => ⟨ht, (exec_effect ht).pending⟩
  by_cases hc : ∃ bytes, c = .frameRejected bytes
  · obtain ⟨bytes, rfl⟩ := hc
    exact (frameRejected_completes bytes s).imp completes fun ⟨hne, hcheck, htakes, hexec⟩ => ⟨bytes, rfl, hne, hcheck, htakes, hexec⟩
  · exact .inl (completes (exec_completes s (not_exists.1 hc)))

/-! ### What is only added (R21, R124, R134) -/

/-- What an owner leaves of the records, the stations and the profiles, by its request. -/
theorem Owned.added {c : Instr} {s t : State} (howned : Owned c s t) :
    ((∀ a filler, c ≠ .ackJournal a filler) → s.journal.records <+: t.journal.records) ∧
      (writesStations c = false → t.stations = s.stations) ∧ ((∀ i p filler, c ≠ .writeProfile i p filler) → t.profiles = s.profiles) := by
  cases howned with
  | changes hchanges =>
    have hkept := hchanges.kept
    exact ⟨fun _ => hkept.records, fun _ => hkept.stations, fun _ => hkept.profiles⟩
  | queued x ms =>
    have hkept := setQueue_kept s x ((s.axis x).queue ++ ms)
    exact ⟨fun _ => hkept.records, fun _ => hkept.stations, fun _ => hkept.profiles⟩
  | resumed na nb => rw [resume_eq]; exact ⟨fun _ => List.prefix_rfl, fun _ => rfl, fun _ => rfl⟩
  | marked x m =>
    have hkept := setMarks_kept s x (insertMark m (s.axis x).marks)
    exact ⟨fun _ => hkept.records, fun _ => hkept.stations, fun _ => hkept.profiles⟩
  | profile i p hc =>
    obtain ⟨index, r, filler, rfl⟩ := hc
    exact ⟨fun _ => List.prefix_rfl, fun _ => rfl, fun hne => absurd rfl (hne index r filler)⟩
  | station n st hc => exact ⟨fun _ => List.prefix_rfl, fun hne => absurd (hc.symm.trans hne) (by decide), fun _ => rfl⟩
  | settings | events | coldFlag => exact ⟨fun _ => List.prefix_rfl, fun _ => rfl, fun _ => rfl⟩
  | acked a filler hc =>
    subst hc
    have hkept := serveFreedSpace_kept (s.removeThrough a)
    exact ⟨fun hne => absurd rfl (hne a filler), fun _ => hkept.stations, fun _ => hkept.profiles⟩

/-- Settles O59: outside recoveries an effect is made of what engines keep and of what an owner leaves. -/
theorem heldRecordsAreOnlyAdded : Obligations.HeldRecordsAreOnlyAdded := by
  intro c s t hexec hsoft hpower hrelease
  have wrote (hstore : ∀ n pa va pb vb filler, c ≠ .stationStore n pa va pb vb filler)
      (hteach : ∀ n set filler, c ≠ .stationTeach n set filler) (hclear : ∀ n set filler, c ≠ .stationClear n set filler) :
      writesStations c = false := by
    cases c with
    | stationStore n pa va pb vb filler => exact absurd rfl (hstore n pa va pb vb filler)
    | stationTeach n set filler => exact absurd rfl (hteach n set filler)
    | stationClear n set filler => exact absurd rfl (hclear n set filler)
    | _ => rfl
  cases exec_effect hexec with
  | changes hchanges =>
    have hkept := hchanges.kept
    exact ⟨fun _ => hkept.records, fun _ _ _ => hkept.stations, fun _ => hkept.profiles⟩
  | acts _ hacts =>
    have hlasting := hacts.lasting
    exact ⟨fun _ => hlasting.records, fun _ _ _ => hlasting.stations, fun _ => hlasting.profiles⟩
  | request bytes r _ howned =>
    have hlasting := (takeReports_acts s).lasting
    obtain ⟨hrecords, hstations, hprofiles⟩ := howned.added
    exact ⟨fun hne => hlasting.records.trans (hrecords hne),
      fun hstore hteach hclear => (hstations (wrote hstore hteach hclear)).trans hlasting.stations,
      fun hne => (hprofiles hne).trans hlasting.profiles⟩
  | soft filler hc => exact absurd hc (hsoft filler)
  | release disturbed hc => exact absurd hc (hrelease disturbed)
  | cold hc =>
    obtain hc | ⟨d, hc, -⟩ := hc
    · exact absurd hc hpower
    · exact absurd hc (hrelease d)
  | linked | held | level => exact ⟨fun _ => List.prefix_rfl, fun _ _ _ => rfl, fun _ => rfl⟩

/-! ### Engines leave each other alone (R41, R205) -/

/-- The other axis is as it was but for the report that a change of a line makes to it. -/
def State.LeavesOther (s t : State) (x : Axis) (c : Instr) : Prop :=
  ∃ made : List Report, t.axis x.other = { s.axis x.other with reports := (s.axis x.other).reports ++ made } ∧
    (made = [] ∨ ∃ r, c = reportCommand x r ∧ made = [r])

theorem leavesOther_of_eq {s t : State} {x : Axis} (c : Instr) (h : t.axis x.other = s.axis x.other) : s.LeavesOther t x c :=
  ⟨[], by rw [h, List.append_nil], .inl rfl⟩

theorem report_leavesOther (s : State) (x : Axis) (r : Report) : s.LeavesOther (s.report x r) x (reportCommand x r) :=
  (report_axis_other s x r).elim (leavesOther_of_eq _) fun h => ⟨[r], h, .inr ⟨r, rfl, rfl⟩⟩

theorem setSwitches_axis (s : State) (p : Pins) (y : Axis) : State.axis { s with pins := p } y = s.axis y := by cases y <;> rfl

theorem setLines_pins_axis_other (s : State) (p : Pins) (x : Axis) (l : Lines) :
    (State.setLines { s with pins := p } x l).axis x.other = s.axis x.other := by rw [setLines_axis_other, setSwitches_axis]

/-- Settles O60: each of an engine's own operations leaves the other axis, and none of its activities reaches another register. -/
theorem enginesLeaveEachOtherAlone : Obligations.EnginesLeaveEachOtherAlone := by
  intro c s t x hc hexec
  suffices h : s.LeavesOther t x c ∧ s.Acts t by
    have hlasting := h.2.lasting
    exact ⟨h.1, hlasting.profiles, hlasting.stations, hlasting.settings, hlasting.coldFlag, hlasting.link, hlasting.power⟩
  have own {p : Prop} [Decidable p] {u : State} (hother : u.axis x.other = s.axis x.other) (hacts : s.Acts u)
      (h : (if p then Host.Outcome.next u else .next s) = (.next t : Host.Outcome State Fault Refusal)) :
      s.LeavesOther t x c ∧ s.Acts t := by
    split at h <;> obtain rfl := Host.Outcome.next.inj h
    · exact ⟨leavesOther_of_eq c hother, hacts⟩
    · exact ⟨leavesOther_of_eq c rfl, .refl⟩
  have hears {u : State} (hother : u.axis x.other = s.axis x.other) (hacts : s.Acts u)
      (h : Host.Outcome.next u = (.next t : Host.Outcome State Fault Refusal)) : s.LeavesOther t x c ∧ s.Acts t := by
    obtain rfl := Host.Outcome.next.inj h
    exact ⟨leavesOther_of_eq c hother, hacts⟩
  have reports (r : Report) (heq : c = reportCommand x r)
      (h : Host.Outcome.next (s.report x r) = (.next t : Host.Outcome State Fault Refusal)) : s.LeavesOther t x c ∧ s.Acts t := by
    obtain rfl := Host.Outcome.next.inj h
    exact ⟨heq ▸ report_leavesOther s x r, report_acts s x r⟩
  obtain rfl | rfl | rfl | rfl | rfl | rfl | rfl | rfl | rfl | ⟨side, rfl⟩ | ⟨side, rfl⟩ := hc
  · exact own (emitPulse_axis_other s x) (emitPulse_changes s x).acts hexec
  · exact own (dwellEnds_axis_other s x) (dwellEnds_changes s x).acts hexec
  · exact own (armEnds_axis_other s x) (armEnds_changes s x).acts hexec
  · exact reports (.sync false) rfl hexec
  · exact reports (.sync true) rfl hexec
  · have hpin := pins_acts s (s.pins.setSwitches x { s.pins.switches x with home := true })
    simp only [exec, execHomeAssert] at hexec
    split_ifs at hexec
    · exact hears (setSwitches_axis s _ _) hpin hexec
    · exact hears ((homeFound_axis_other _ x).trans (setLines_pins_axis_other s _ x _))
        ((hpin.trans (setLines_acts _ x _)).trans (homeFound_changes _ x).acts) hexec
    · exact hears (setSwitches_axis s _ _) hpin hexec
  · have hpin := pins_acts s (s.pins.setSwitches x { s.pins.switches x with home := false })
    simp only [exec, execHomeRelease] at hexec
    split_ifs at hexec
    · exact hears (setLines_pins_axis_other s _ x _) (hpin.trans (setLines_acts _ x _)) hexec
    · exact hears (setSwitches_axis s _ _) hpin hexec
  · exact reports (.emergency true) rfl hexec
  · exact reports (.emergency false) rfl hexec
  · have hpin := pins_acts s (s.pins.setSwitches x ((s.pins.switches x).setLimit side true))
    simp only [exec, execLimitAssert] at hexec
    split_ifs at hexec
    · exact hears (setSwitches_axis s _ _) hpin hexec
    · exact hears ((limitStop_axis_other _ x side).trans (setLines_pins_axis_other s _ x _))
        ((hpin.trans (setLines_acts _ x _)).trans (limitStop_changes _ x side).acts) hexec
    · exact hears (setSwitches_axis s _ _) hpin hexec
  · have hpin := pins_acts s (s.pins.setSwitches x ((s.pins.switches x).setLimit side false))
    simp only [exec, execLimitRelease] at hexec
    split_ifs at hexec
    · exact hears (setLines_pins_axis_other s _ x _) (hpin.trans (setLines_acts _ x _)) hexec
    · exact hears (setSwitches_axis s _ _) hpin hexec

end Sys2Proof.Machine
end

section
/-! SUPPORT. A move that leaves its slot has left its terminal record (R65, R141, R169). -/

namespace Sys2Proof.Machine

/-- The axis holds a move. -/
def State.Holds (s : State) (x : Axis) (m : Move) : Prop := ∃ sl, (s.axis x).slot = some sl ∧ sl.move = m

/-- A record ends a move of an axis. -/
def Record.Ends (r : Record) (x : Axis) (m : Move) : Prop :=
  r.entry.axis = some x ∧ r.entry.tag = some m.tag ∧ r.entry.kind.terminal

/-- Records are only added, and a move still stands or its terminal record is among the added ones. -/
def State.Follows (s t : State) (x : Axis) (m : Move) : Prop :=
  ∃ written, t.journal.records = s.journal.records ++ written ∧ (t.Holds x m ∨ ∃ r ∈ written, r.Ends x m)

section
variable {s t u : State} {x : Axis} {m : Move}

theorem State.Holds.of_slot (h : s.Holds x m) (hslot : (t.axis x).slot = (s.axis x).slot) : t.Holds x m := by
  obtain ⟨sl, hsl, hm⟩ := h
  exact ⟨sl, hslot.trans hsl, hm⟩

theorem State.Holds.follows (h : t.Holds x m) (hrecords : s.journal.records <+: t.journal.records) : s.Follows t x m := by
  obtain ⟨written, hwritten⟩ := hrecords
  exact ⟨written, hwritten.symm, .inl h⟩

theorem State.Follows.trans (h : s.Follows t x m) (hthen : t.Holds x m → t.Follows u x m)
    (hrecords : t.journal.records <+: u.journal.records) : s.Follows u x m := by
  obtain ⟨written, hwritten, hstands | ⟨r, hr, hends⟩⟩ := h
  · obtain ⟨more, hmore, hlast⟩ := hthen hstands
    refine ⟨written ++ more, by rw [hmore, hwritten, List.append_assoc], hlast.imp_right fun ⟨r, hr, hends⟩ => ?_⟩
    exact ⟨r, List.mem_append_right _ hr, hends⟩
  · obtain ⟨more, hmore⟩ := hrecords
    exact ⟨written ++ more, by rw [← hmore, hwritten, List.append_assoc], .inr ⟨r, List.mem_append_left _ hr, hends⟩⟩

theorem State.Follows.ends (h : s.Follows t x m) (hnone : (t.axis x).slot = none) :
    ∃ written, t.journal.records = s.journal.records ++ written ∧ ∃ r ∈ written, r.Ends x m := by
  obtain ⟨written, hwritten, ⟨sl, hsl, -⟩ | hends⟩ := h
  · rw [hnone] at hsl
    cases hsl
  · exact ⟨written, hwritten, hends⟩

/-- A change of one axis that keeps a move in that axis's slot keeps it. -/
theorem State.Holds.onAxis {y : Axis} {f : AxisUnit → AxisUnit} (h : s.Holds x m) (haxis : ∀ z, t.axis z = s.axis z)
    (hf : ∀ sl, (s.axis y).slot = some sl → ∃ sl', (f (s.axis y)).slot = some sl' ∧ sl'.move = sl.move) : (t.onAxis y f).Holds x m := by
  obtain ⟨sl, hsl, rfl⟩ := h
  obtain rfl | rfl := axis_eq_or_other y x
  · obtain ⟨sl', hsl', hmove⟩ := hf sl hsl
    exact ⟨sl', by rw [onAxis_axis, haxis, hsl'], hmove⟩
  · exact ⟨sl, by rw [onAxis_axis_other, haxis, hsl], rfl⟩

theorem State.Holds.same (h : s.Holds x m) (haxis : ∀ z, t.axis z = s.axis z) : t.Holds x m := h.of_slot (by rw [haxis])

end

/-- An ending writes the terminal record of the move it ends; every other change keeps the moves that stand. -/
theorem Change.follows {s t : State} (hchange : Change s t) (hcore : s.CoreLaws) {x : Axis} {m : Move} (h : s.Holds x m) :
    s.Follows t x m := by
  have hrecords := hchange.kept.records
  have same {sl : Slot} {u : AxisUnit} (hsl : u.slot = some sl) : ∃ sl', u.slot = some sl' ∧ sl'.move = sl.move := ⟨sl, hsl, rfl⟩
  cases hchange with
  | event e => exact (h.same (setEvent_axis s e)).follows hrecords
  | offer e => exact (h.same (offerRecord_axis s e)).follows hrecords
  | gap => exact (h.same (writeGap_axis s)).follows hrecords
  | counter y n p =>
    refine State.Holds.follows ?_ hrecords
    have heq : (s.onAxis y (fun u => { u with stepEdges := n })).onAxis y (fun u => { u with position := p }) =
        s.onAxis y (fun u => { u with stepEdges := n, position := p }) := onAxis_onAxis ..
    rw [State.setCounter, heq]
    exact (h.onAxis (y := y) (fun _ => rfl) fun _ hsl => same hsl).same (seal_axis _)
  | marks y ms => exact (h.onAxis (f := fun u => { u with marks := ms }) (fun _ => rfl) fun _ hsl => same hsl).follows hrecords
  | emptied y =>
    refine State.Holds.follows ?_ hrecords
    have hqueue : (s.setQueue y []).Holds x m := h.onAxis (f := fun u => { u with queue := [] }) (fun _ => rfl) fun _ hsl => same hsl
    unfold State.unblockFlushed
    split
    · exact hqueue.onAxis (f := fun u => { u with state := .idle }) (leaveWaitList_axis _ y) fun _ hsl => same hsl
    · exact hqueue
  | within y f hwithin =>
    obtain ⟨sl, sl', hsl, hsl', hmove⟩ := hwithin.slots
    refine (h.onAxis (fun _ => rfl) fun z hz => ?_).follows hrecords
    obtain rfl : sl = z := Option.some.inj (hsl.symm.trans hz)
    exact ⟨sl', hsl', hmove⟩
  | ends y sl e st hslot hentry =>
    obtain ⟨z, hz, rfl⟩ := h
    obtain rfl | rfl := axis_eq_or_other y x
    · obtain rfl : sl = z := Option.some.inj (hslot.symm.trans hz)
      refine ⟨[⟨s.journal.seq, e⟩], ?_, .inr ⟨_, List.mem_singleton_self _, hentry⟩⟩
      rw [setAxisState_journal, setSlot_journal, convertReservation_journal]
    · refine State.Holds.follows ⟨z, ?_, rfl⟩ hrecords
      rw [setAxisState_axis_other, setSlot_axis_other, convertReservation_axis, hz]
  | halts y =>
    refine State.Holds.follows (h.onAxis (f := fun u => { u with state := .halted }) (fun z => ?_) fun _ hsl => same hsl) hrecords
    split
    · exact leaveWaitList_axis s y z
    · rfl
  | joins y =>
    refine State.Holds.follows ?_ hrecords
    exact h.onAxis (f := fun u => { u with state := .blocked }) (forall_axis.2 ⟨rfl, rfl⟩) fun _ hsl => same hsl
  | admitted y w move rest target _ _ hwait =>
    refine State.Holds.follows ?_ hrecords
    refine h.onAxis (forall_axis.2 ⟨rfl, rfl⟩) fun sl hsl => ?_
    have hholds := hcore.holdsMove hsl
    obtain ⟨hidle, -⟩ | hhead := hwait
    · rw [hidle] at hholds; cases hholds
    · rw [(hcore.waits y).1 (by simp [hhead])] at hholds; cases hholds
  | lapses y w => exact (h.same (forall_axis.2 ⟨rfl, rfl⟩)).follows hrecords

theorem Activity.coreLaws {s t : State} (hactivity : Activity s t) (h : s.CoreLaws) : t.CoreLaws := by
  cases hactivity with
  | change hchange => exact hchange.coreLaws h
  | hear x l rs => exact h.onAxis (h.slot x) (h.phase x) (h.blocked x) rfl .rfl
  | pins p => exact h.of_same_axes (forall_axis.2 ⟨rfl, rfl⟩) rfl rfl h.capacity

theorem Activity.follows {s t : State} (hactivity : Activity s t) (hcore : s.CoreLaws) {x : Axis} {m : Move} (h : s.Holds x m) :
    s.Follows t x m := by
  have hrecords := hactivity.lasting.records
  cases hactivity with
  | change hchange => exact hchange.follows hcore h
  | hear y l rs => exact (h.onAxis (fun _ => rfl) fun sl hsl => ⟨sl, hsl, rfl⟩).follows hrecords
  | pins p => exact (h.same (forall_axis.2 ⟨rfl, rfl⟩)).follows hrecords

theorem State.Acts.follows {s t : State} (hacts : s.Acts t) (hcore : s.CoreLaws) {x : Axis} {m : Move} (h : s.Holds x m) :
    s.Follows t x m := by
  suffices hboth : t.CoreLaws ∧ s.Follows t x m from hboth.2
  induction hacts with
  | refl => exact ⟨hcore, h.follows List.prefix_rfl⟩
  | tail _ hactivity ih =>
    exact ⟨hactivity.coreLaws ih.1, ih.2.trans (hactivity.follows ih.1) hactivity.lasting.records⟩

theorem Owned.follows {c : Instr} {s t : State} (howned : Owned c s t) (hc : ∀ a filler, c ≠ .ackJournal a filler) (hcore : s.CoreLaws)
    {x : Axis} {m : Move} (h : s.Holds x m) : s.Follows t x m := by
  have hrecords := howned.added.1 hc
  cases howned with
  | changes hchanges => exact hchanges.acts.follows hcore h
  | queued y ms =>
    exact (h.onAxis (f := fun u => { u with queue := (s.axis y).queue ++ ms }) (fun _ => rfl) fun sl hsl => ⟨sl, hsl, rfl⟩).follows hrecords
  | resumed na nb =>
    refine State.Holds.follows (h.of_slot ?_) hrecords
    rw [resume_eq]
    cases x <;> cases na <;> cases nb <;> rfl
  | marked y mark =>
    exact (h.onAxis (f := fun u => { u with marks := insertMark mark (s.axis y).marks }) (fun _ => rfl)
      fun sl hsl => ⟨sl, hsl, rfl⟩).follows hrecords
  | acked a filler hack => exact absurd hack (hc a filler)
  | profile | station | settings | events | coldFlag => exact (h.same (forall_axis.2 ⟨rfl, rfl⟩)).follows hrecords

/-! ### Recovery and acknowledgement -/

theorem mem_numbered {e : Entry} {es : List Entry} (h : e ∈ es) (n : Half) : ∃ r ∈ numbered n es, r.entry = e := by
  induction es generalizing n with
  | nil => cases h
  | cons first rest ih =>
    obtain rfl | hrest := List.mem_cons.1 h
    · exact ⟨⟨n, e⟩, List.mem_cons_self, rfl⟩
    · obtain ⟨r, hr, hentry⟩ := ih hrest (n + 1#16)
      exact ⟨r, List.mem_cons_of_mem _ hr, hentry⟩

/-- An interrupted move leaves its INTERRUPTED record: with a reservation to convert, the RESTART record has room (R149, R170). -/
theorem warmRecover_follows {s : State} (kind : RestartKind) (reply : Reply) (hcore : s.CoreLaws) {x : Axis} {m : Move}
    (h : s.Holds x m) : s.Follows (s.warmRecover kind reply) x m := by
  obtain ⟨sl, hsl, rfl⟩ := h
  have hlength : s.journal.records.length + s.interruptions.length = s.journal.total := by
    have hall := (interrupted_journal hcore).1
    rwa [(interruptMoves_journal s).1, List.length_append, length_numbered] at hall
  have hroom : s.journal.records.length + s.interruptions.length < 128 := by
    have htotal : s.journal.total ≤ 126 := hcore.total_le (hcore.reserved_pos hsl)
    omega
  obtain ⟨⟨hplaced, -⟩, -⟩ := warmRecoveryReportsAndResets s _ kind reply _ rfl rfl
  refine ⟨_, (hplaced hroom).1, .inr ?_⟩
  have hmem : Entry.terminal x sl (s.axis x).position .interrupted .reset false ∈ s.interruptions := by
    have hentry : interruptedEntries x (s.axis x) = [Entry.terminal x sl (s.axis x).position .interrupted .reset false] := by
      simp only [interruptedEntries, hsl]
      rfl
    cases x
    · exact List.mem_append_left _ (hentry ▸ List.mem_singleton_self _)
    · exact List.mem_append_right _ (hentry ▸ List.mem_singleton_self _)
  obtain ⟨r, hr, hentry⟩ := mem_numbered (List.mem_append_left [_] hmem) s.journal.seq
  refine ⟨r, hr, ?_⟩
  rw [Record.Ends, hentry]
  exact ⟨rfl, rfl, .inr (.inr (.inr rfl))⟩

theorem checkPasses_of_checkLaw {s : State} (h : s.CheckLaw) : s.checkPasses = true := by
  rw [State.CheckLaw] at h
  rw [State.checkPasses, h]
  exact beq_self_eq_true _

theorem Effect.follows {c : Instr} {s t : State} (heffect : Effect c s t) (hack : ∀ a filler, c ≠ .ackJournal a filler)
    (hready : s.linkReady = true ∨ payloadOfRequest c = none) (hpower : c ≠ .powerOn) (hrelease : c ≠ .pinResetRelease true)
    (hheld : s.power ≠ .heldPowerOn) (hcore : s.CoreLaws)
    (hcheck : s.CheckLaw) {x : Axis} {m : Move} (h : s.Holds x m) : s.Follows t x m := by
  have htaken := (takeReports_acts s).follows hcore h
  have hcore' : s.takeReports.CoreLaws :=
    (takeReports_acts s).keeps (P := State.CoreLaws) (fun hactivity => hactivity.coreLaws) hcore
  cases heffect with
  | changes hchanges => exact hchanges.acts.follows hcore h
  | acts _ hacts => exact hacts.follows hcore h
  | request bytes r _ howned =>
    have hanswered := htaken.trans (howned.follows hack hcore') (howned.added.1 hack)
    exact hanswered.trans (fun hlast => (hlast.same (withLink_axis _ _)).follows List.prefix_rfl) List.prefix_rfl
  | soft filler hc =>
    subst hc
    have hlink : s.linkReady = true := hready.resolve_right nofun
    have hsame : s.takeReports = s := takeReports_of_taken s ((linkReady_iff s).1 hlink).2
    rw [hsame, checkPasses_of_checkLaw (s := s.chipSelectHigh) hcheck]
    have hcore' : s.chipSelectHigh.CoreLaws := hcore.of_same_axes (chipSelectHigh_axis s) rfl rfl hcore.capacity
    exact warmRecover_follows .soft softResetReply hcore' (h.same (chipSelectHigh_axis s))
  | release disturbed hc =>
    cases disturbed with
    | false =>
      rw [checkPasses_of_checkLaw hcheck]
      exact warmRecover_follows .pin Reply.restarted hcore h
    | true => exact absurd hc hrelease
  | cold hc =>
    obtain hc | ⟨d, -, hheldOn⟩ := hc
    · exact absurd hc hpower
    · exact absurd hheldOn hheld
  | held p low a b _ ha hb =>
    obtain ⟨sl, hsl, rfl⟩ := h
    have hstands {u v : AxisUnit} (hv : v = u ∨ v = u.stopPulses) (hu : u.slot = some sl) :
        ∃ sl', v.slot = some sl' ∧ sl'.move = sl.move := by
      obtain rfl | rfl := hv
      · exact ⟨sl, hu, rfl⟩
      · exact ⟨{ sl with interval := none }, by simp [AxisUnit.stopPulses, hu], rfl⟩
    refine State.Holds.follows ?_ List.prefix_rfl
    cases x
    · exact hstands ha hsl
    · exact hstands hb hsl
  | linked | level => exact (h.same (forall_axis.2 ⟨rfl, rfl⟩)).follows List.prefix_rfl

/-- ACK JOURNAL removes the acknowledged records, and its service writes any ending after those that stay (R146, R155). -/
theorem ackJournal_follows {s t : State} {a : Half} {filler : List Byte} (hready : s.linkReady = true)
    (hexec : exec (.ackJournal a filler) s = .next t) (hcore : s.CoreLaws) {x : Axis} {m : Move} (h : s.Holds x m) :
    t.Holds x m ∨ (s.removeThrough a).Follows t x m := by
  by_cases hheld : (a - s.journal.oldest).toNat < s.journal.records.length
  · rw [exec_ackJournal_of_owner filler hready (ackJournalOwner_of_held hheld) (serveFreedSpace_kept _).link] at hexec
    obtain rfl := Host.Outcome.next.inj hexec
    have hremoved : (s.removeThrough a).CoreLaws :=
      hcore.of_same_axes (fun y => setJournal_axis s _ y) rfl rfl (capacityLaw_drop _ hcore.capacity)
    have hstands : (s.removeThrough a).Holds x m := h.same (fun y => setJournal_axis s _ y)
    have hserved := (serveFreedSpace_changes _).acts.follows hremoved hstands
    exact .inr (hserved.trans (fun hlast => (hlast.same (withLink_axis _ _)).follows List.prefix_rfl) List.prefix_rfl)
  · rw [exec_ackJournal_of_owner filler hready (ackJournalOwner_of_outside (Nat.not_lt.1 hheld)) rfl] at hexec
    obtain rfl := Host.Outcome.next.inj hexec
    exact .inl (h.same (withLink_axis _ _))

/-- Settles O58: a move is followed through the changes, the answer or the recovery of which a command's effect is made. -/
theorem everyEndingIsRecorded : Obligations.EveryEndingIsRecorded := by
  intro c s t x sl hengine hcheck hexec hready hpower hrelease hheld hslot hnone
  obtain ⟨hcore, -⟩ := (engineLaws_iff s).1 hengine
  have hholds : s.Holds x sl.move := ⟨sl, hslot, rfl⟩
  suffices h : ∃ written, t.journal.records = s.journal.records.drop (acknowledgedCount s c) ++ written ∧
      ∃ r ∈ written, r.Ends x sl.move by
    obtain ⟨written, hwritten, r, hr, haxis, htag, hkind⟩ := h
    exact ⟨written, r, hwritten, hr, haxis, htag, hkind⟩
  by_cases hack : ∃ a filler, c = .ackJournal a filler
  · obtain ⟨a, filler, rfl⟩ := hack
    have hlink : s.linkReady = true := hready.resolve_right nofun
    obtain ⟨z, hz, -⟩ | hfollows := ackJournal_follows hlink hexec hcore hholds
    · rw [hnone] at hz; cases hz
    · exact hfollows.ends hnone
  · have hne (a : Half) (filler : List Byte) : c ≠ .ackJournal a filler := fun h => hack ⟨a, filler, h⟩
    have hcount : acknowledgedCount s c = 0 := by
      cases c with
      | ackJournal a filler => exact absurd rfl (hne a filler)
      | _ => rfl
    rw [hcount, List.drop_zero]
    exact ((exec_effect hexec).follows hne hready hpower hrelease hheld hcore hcheck hholds).ends hnone

end Sys2Proof.Machine
end

section
/-! SUPPORT. Profiles, rates and the axis requests (chapters 1, 2, 3, 5 and 7): each owner's answers by its checks. -/

namespace Sys2Proof.Machine

/-! ### WRITE PROFILE and the rates (R22, R25, R53) -/

/-- The fields of a WRITE PROFILE in the order R22 checks them. -/
def profileFields : List FieldCode := [.index, .base, .cruise, .ramp, .settle, .limitStyle, .homeStyle]

theorem profileFieldFails_index (index : Byte) (r : RawProfile) : profileFieldFails index r .index = !decide (index.toNat < 8) := by
  rw [Bool.eq_iff_iff]
  simp [profileFieldFails]
  omega

theorem profileFieldFails_base (index : Byte) (r : RawProfile) :
    profileFieldFails index r .base = decide (r.base.toNat = 0 ∨ Config.rateLimit < r.base.toNat) := by
  have hzero : r.base = 0#32 ↔ r.base.toNat = 0 := by bv_omega
  simp only [profileFieldFails, hzero]
  rfl

theorem profileFieldFails_ramp (index : Byte) (r : RawProfile) : profileFieldFails index r .ramp = decide (r.ramp.toNat = 0) := by
  have hzero : r.ramp = 0#16 ↔ r.ramp.toNat = 0 := by bv_omega
  simp only [profileFieldFails, hzero]

theorem profileFieldFails_limitStyle (index : Byte) (r : RawProfile) :
    profileFieldFails index r .limitStyle = (styleOfCode r.limitStyle).isNone := by
  rw [Bool.eq_iff_iff, Option.isNone_iff_eq_none, styleOfCode_eq_none_iff]
  simp [profileFieldFails]

theorem profileFieldFails_homeStyle (index : Byte) (r : RawProfile) :
    profileFieldFails index r .homeStyle = (styleOfCode r.homeStyle).isNone := by
  rw [Bool.eq_iff_iff, Option.isNone_iff_eq_none, styleOfCode_eq_none_iff]
  simp [profileFieldFails]

/-- A profile none of whose fields fails is the one its bytes spell, and the first field that fails is the answer of any other (R22). -/
theorem checkProfile_of_find? (index : Byte) (r : RawProfile) :
    match profileFields.find? (profileFieldFails index r) with
    | some f => checkProfile index r = .error f
    | none => ∃ (i : Fin 8) (p : Profile), checkProfile index r = .ok (i, p) ∧ i.val = index.toNat ∧ p.base = r.base.toNat ∧
        p.cruise = r.cruise.toNat ∧ p.ramp = r.ramp.toNat ∧ p.settle = r.settle.toNat ∧
        styleOfCode r.limitStyle = some p.limitStyle ∧ styleOfCode r.homeStyle = some p.homeStyle := by
  have fcruise : profileFieldFails index r .cruise = decide (Config.rateLimit < r.cruise.toNat ∨ r.cruise.toNat < r.base.toNat) := rfl
  have fsettle : profileFieldFails index r .settle = decide (Config.settleLimit < r.settle.toNat) := rfl
  unfold profileFields checkProfile
  simp only [List.find?_cons, List.find?_nil, profileFieldFails_index, profileFieldFails_base, fcruise, profileFieldFails_ramp, fsettle,
    profileFieldFails_limitStyle, profileFieldFails_homeStyle]
  by_cases hindex : index.toNat < 8
  case neg => simp [hindex]
  by_cases hbase : r.base.toNat = 0 ∨ Config.rateLimit < r.base.toNat
  case pos => simp [hindex, hbase]
  by_cases hcruise : Config.rateLimit < r.cruise.toNat ∨ r.cruise.toNat < r.base.toNat
  case pos => simp [hindex, hbase, hcruise]
  by_cases hramp : r.ramp.toNat = 0
  case pos => simp [hindex, hbase, hcruise, hramp]
  by_cases hsettle : Config.settleLimit < r.settle.toNat
  case pos => simp [hindex, hbase, hcruise, hramp, hsettle]
  simp only [hindex, hbase, hcruise, hramp, hsettle, decide_true, decide_false, Bool.not_true, dite_true, if_false]
  cases hlimit : styleOfCode r.limitStyle with
  | none => rfl
  | some limitStyle =>
  cases hhome : styleOfCode r.homeStyle with
  | none => rfl
  | some homeStyle => exact ⟨_, _, rfl, rfl, rfl, rfl, rfl, rfl, rfl, rfl⟩

theorem exec_writeProfile_of_owner {s t : State} {index : Byte} {r : RawProfile} {status : Status} {reply : List Byte}
    (filler : List Byte) (hready : s.linkReady = true) (howner : writeProfileOwner index r s = ⟨status, reply, t⟩)
    (hlink : t.link = s.link) :
    exec (.writeProfile index r filler) s = .next (t.answered (.writeProfile index r filler) status reply) :=
  congrArg _ (takeRequest_of_owner (.writeProfile index r filler) hready rfl howner hlink)

/-- Settles O14: R22's checks in their order, then the owner's two answers. -/
theorem writeProfileReplacesTheProfile : Obligations.WriteProfileReplacesTheProfile := by
  refine ⟨rfl, rfl, fun s index r filler hready => ?_⟩
  have hcheck := checkProfile_of_find? index r
  unfold profileFields at hcheck
  split <;> rename_i hfind <;> rw [hfind] at hcheck
  next f =>
    exact exec_writeProfile_of_owner filler hready (by simp only [writeProfileOwner, hcheck]; rfl) rfl
  next =>
    obtain ⟨i, p, hok, hi, hbase, hcruise, hramp, hsettle, hlimit, hhome⟩ := hcheck
    refine ⟨i, p, hi, hbase, hcruise, hramp, hsettle, hlimit, hhome, ?_⟩
    exact exec_writeProfile_of_owner filler hready (by simp only [writeProfileOwner, hok]; rfl) rfl

/-- The top level is the quotient rounded up (R25). -/
theorem topLevel_le_iff {b c i n : Nat} (hi : 1 ≤ i) : topLevel b c i ≤ n ↔ c - b ≤ i * n := by
  rw [topLevel, ← Nat.lt_succ_iff, Nat.div_lt_iff_lt_mul hi, Nat.succ_mul, Nat.mul_comm n i]
  omega

/-- Settles O15: the quotient rounded up, and the quotient rounded half up. -/
theorem ratesAndIntervals : Obligations.RatesAndIntervals := by
  refine ⟨fun b c i hi hbc => ⟨(topLevel_le_iff hi).1 le_rfl, fun n => (topLevel_le_iff hi).2, ?_⟩, fun r hr => ?_⟩
  · have hreaches : c - b ≤ i * topLevel b c i := (topLevel_le_iff hi).1 le_rfl
    omega
  · have hclock : Config.clockHz = 16000000 := rfl
    have hdiv := Nat.div_add_mod (2 * Config.clockHz + r) (2 * r)
    have hmod := Nat.mod_lt (2 * Config.clockHz + r) (show 0 < 2 * r by omega)
    rw [hclock] at hdiv hmod
    rw [intervalOf, hclock]
    generalize (2 * 16000000 + r) / (2 * r) = n at hdiv
    have hsucc : 2 * r * (n + 1) = 2 * r * n + 2 * r := Nat.mul_succ _ _
    omega

/-! ### FLUSH QUEUE (R16 to R18) -/

theorem flushQueue_of_nil {s : State} {x : Axis} (cause : Cause) (h : (s.axis x).queue = []) : s.flushQueue x cause = s := by
  simp only [State.flushQueue, h]

theorem flushQueue_of_cons {s : State} {x : Axis} {m : Move} {rest : List Move} (cause : Cause) (h : (s.axis x).queue = m :: rest) :
    s.flushQueue x cause = ((s.setQueue x []).unblockFlushed x).offerRecord
      (Entry.flushed x cause (m :: rest) m.tag ((m :: rest).getLast (List.cons_ne_nil m rest)).tag (s.axis x).position) := by
  simp only [State.flushQueue, h]

theorem emptied_eq (s : State) (x : Axis) : (s.setQueue x []).unblockFlushed x =
    if (s.axis x).state = .blocked then
      State.onAxis { s with journal := { s.journal with waitList := s.journal.waitList.filter (· != x) } } x
        (fun u => { u with queue := [], state := .idle })
    else s.onAxis x (fun u => { u with queue := [] }) := by
  rw [State.unblockFlushed, setQueue_axis]
  split
  · cases x <;> rfl
  · rfl

section
variable {s : State} {sel : Byte}

theorem exec_flushQueue_of_owner {t : State} {status : Status} {reply : List Byte} (filler : List Byte) (hready : s.linkReady = true)
    (howner : flushQueueOwner sel s = ⟨status, reply, t⟩) (hlink : t.link = s.link) :
    exec (.flushQueue sel filler) s = .next (t.answered (.flushQueue sel filler) status reply) :=
  congrArg _ (takeRequest_of_owner (.flushQueue sel filler) hready rfl howner hlink)

theorem flushQueueOwner_of_no_axes (hsel : namesNoAxes sel) : flushQueueOwner sel s = ⟨.invalid, [1#8, 0#8, 0#8], s⟩ := by
  simp only [flushQueueOwner, axesOfSelector_eq_none_iff.2 hsel]
  rfl

end

/-- Settles O19: the flush of one axis by its queue, and FLUSH QUEUE by its selector. -/
theorem flushEmptiesTheNamedQueues : Obligations.FlushEmptiesTheNamedQueues := by
  refine ⟨fun s x cause => ⟨flushQueue_of_nil cause, fun m last rest hqueue hlast => ?flushed⟩, fun s filler hready => ⟨?none, ?a, ?b, ?both⟩⟩
  case flushed =>
    have hlast' : (m :: rest).getLast (List.cons_ne_nil m rest) = last :=
      Option.some.inj ((List.getLast?_eq_some_getLast (List.cons_ne_nil m rest)).symm.trans hlast)
    rw [flushQueue_of_cons cause hqueue, emptied_eq, hlast']
    rfl
  case none => exact fun sel hsel => exec_flushQueue_of_owner filler hready (flushQueueOwner_of_no_axes hsel) rfl
  case a => exact exec_flushQueue_of_owner filler hready rfl (flushQueue_kept s .A .none).link
  case b => exact exec_flushQueue_of_owner filler hready rfl (flushQueue_kept s .B .none).link
  case both =>
    exact exec_flushQueue_of_owner filler hready rfl ((flushQueue_kept s .A .none).trans (flushQueue_kept _ .B .none)).link

/-! ### RESUME AXIS (R110) -/

section
variable {s : State} {sel : Byte}

theorem exec_resumeAxis_of_owner {t : State} {status : Status} {reply : List Byte} (filler : List Byte) (hready : s.linkReady = true)
    (howner : resumeAxisOwner sel s = ⟨status, reply, t⟩) (hlink : t.link = s.link) :
    exec (.resumeAxis sel filler) s = .next (t.answered (.resumeAxis sel filler) status reply) :=
  congrArg _ (takeRequest_of_owner (.resumeAxis sel filler) hready rfl howner hlink)

theorem resumeAxisOwner_of_no_axes (hsel : namesNoAxes sel) : resumeAxisOwner sel s = ⟨.invalid, s.statesReply .axis, s⟩ := by
  simp only [resumeAxisOwner, axesOfSelector_eq_none_iff.2 hsel]

theorem selector_codes (hsel : ¬namesNoAxes sel) : sel = 1#8 ∨ sel = 2#8 ∨ sel = 3#8 := by
  simpa only [namesNoAxes, not_and_or, not_not] using hsel

/-- What a selector that names an axis names (R193). -/
theorem axesOfSelector_named (hsel : ¬namesNoAxes sel) : axesOfSelector sel = some (decide (sel ≠ 2#8), decide (sel ≠ 1#8)) := by
  obtain rfl | rfl | rfl := selector_codes hsel <;> rfl

theorem resumeAxisOwner_of_named (hsel : ¬namesNoAxes sel) :
    resumeAxisOwner sel s =
      if s.pins.emergency = true then ⟨.emergency, s.statesReply .none, s⟩
      else if (sel ≠ 2#8 ∧ s.a.state ≠ .halted) ∨ (sel ≠ 1#8 ∧ s.b.state ≠ .halted) then ⟨.busy, s.statesReply .none, s⟩
      else ⟨.ok, (s.resume (decide (sel ≠ 2#8)) (decide (sel ≠ 1#8))).statesReply .none,
        s.resume (decide (sel ≠ 2#8)) (decide (sel ≠ 1#8))⟩ := by
  simp only [resumeAxisOwner, axesOfSelector_named hsel, Bool.or_eq_true, Bool.and_eq_true, decide_eq_true_eq, bne_iff_ne, State.resume]

end

/-- Settles O25: the owner's answers by the selector, the emergency line and the named axes' states. -/
theorem resumeAxisReturnsToIdle : Obligations.ResumeAxisReturnsToIdle := by
  refine fun s filler hready => ⟨fun sel hsel => ?bad, fun sel hsel => ?named⟩
  case bad => exact exec_resumeAxis_of_owner filler hready (resumeAxisOwner_of_no_axes hsel) rfl
  case named =>
    have howner := resumeAxisOwner_of_named (s := s) hsel
    by_cases hemergency : s.pins.emergency = true
    case pos =>
      rw [if_pos hemergency] at howner ⊢
      exact exec_resumeAxis_of_owner filler hready howner rfl
    rw [if_neg hemergency] at howner ⊢
    by_cases hbusy : (sel ≠ 2#8 ∧ s.a.state ≠ .halted) ∨ (sel ≠ 1#8 ∧ s.b.state ≠ .halted)
    case pos =>
      rw [if_pos hbusy] at howner ⊢
      exact exec_resumeAxis_of_owner filler hready howner rfl
    rw [if_neg hbusy] at howner ⊢
    obtain rfl | rfl | rfl := selector_codes hsel
    · exact exec_resumeAxis_of_owner filler hready howner rfl
    · exact exec_resumeAxis_of_owner filler hready howner rfl
    · exact exec_resumeAxis_of_owner filler hready howner rfl

/-! ### RETUNE's refusals and SET POSITION (R35, R59) -/

section
variable {s : State} {sel : Byte} {rate : Word} {x : Axis}

theorem exec_retune_of_owner {t : State} {status : Status} {reply : List Byte} (filler : List Byte) (hready : s.linkReady = true)
    (howner : retuneOwner sel rate s = ⟨status, reply, t⟩) (hlink : t.link = s.link) :
    exec (.retune sel rate filler) s = .next (t.answered (.retune sel rate filler) status reply) :=
  congrArg _ (takeRequest_of_owner (.retune sel rate filler) hready rfl howner hlink)

theorem retuneOwner_of_no_axis (hsel : namesNoAxis sel) : retuneOwner sel rate s = ⟨.invalid, 1#8 :: List.replicate 11 0#8, s⟩ := by
  simp only [retuneOwner, axisOfSelector_of_namesNoAxis hsel]
  rfl

theorem retuneOwner_of_bad_rate (hrate : rate = 0#32 ∨ 200000 < rate.toNat) :
    retuneOwner x.selector rate s = ⟨.invalid, 0x12#8 :: retuneItems (s.axis x), s⟩ := by
  have hrange : rate.toNat = 0 ∨ Config.rateLimit < rate.toNat := hrate.imp_left fun h => by rw [h]; rfl
  simp only [retuneOwner, axisOfSelector_selector, if_pos hrange, retuneReply_eq, FieldCode.code]

theorem range_of_rate (hzero : rate ≠ 0#32) (hlimit : rate.toNat ≤ 200000) : ¬(rate.toNat = 0 ∨ Config.rateLimit < rate.toNat) := by
  have hlimit' : rate.toNat ≤ Config.rateLimit := hlimit
  bv_omega

theorem retuneOwner_of_busy (hzero : rate ≠ 0#32) (hlimit : rate.toNat ≤ 200000) (hretuned : (s.axis x).retuned rate.toNat = none) :
    retuneOwner x.selector rate s = ⟨.busy, 0#8 :: retuneItems (s.axis x), s⟩ := by
  simp only [retuneOwner, axisOfSelector_selector, if_neg (range_of_rate hzero hlimit), hretuned, retuneReply_eq, FieldCode.code]

theorem retuneOwner_of_base (hzero : rate ≠ 0#32) (hlimit : rate.toNat ≤ 200000) {sl sl' : Slot}
    (hretuned : (s.axis x).retuned rate.toNat = some (sl, sl')) (hbase : rate.toNat < sl.snap.base) :
    retuneOwner x.selector rate s = ⟨.invalid, 0x12#8 :: retuneItems (s.axis x), s⟩ := by
  simp only [retuneOwner, axisOfSelector_selector, if_neg (range_of_rate hzero hlimit), hretuned, if_pos hbase, retuneReply_eq,
    FieldCode.code]

/-- RETUNE is BUSY without a move, in STOPPING, and in the phases it does not act in (R35). -/
theorem retuned_none {u : AxisUnit} (r : Nat) (h : u.slot = none ∨ u.state = .stopping ∨ (∃ sl, u.slot = some sl ∧ u.state = .running ∧
    (sl.phase = .decel ∨ sl.phase = .settle ∨ sl.phase = .wait))) : u.retuned r = none := by
  obtain hslot | hstate | ⟨sl, hslot, hstate, hphase⟩ := h
  · simp only [AxisUnit.retuned, hslot]
  · cases hslot : u.slot <;> simp only [AxisUnit.retuned, hslot, hstate]
  · have hnot : sl.phase.retunable = false := by obtain h | h | h := hphase <;> rw [h] <;> rfl
    simp [AxisUnit.retuned, hslot, hstate, hnot]

end

/-- Settles O26: the selector, the rate, the axis and the base rate in turn. -/
theorem retuneRefusals : Obligations.RetuneRefusals := by
  refine fun s rate filler hready => ⟨fun sel hsel => ?bad, fun x => ⟨fun hrate => ?rate, fun hzero hlimit => ⟨fun hbusy => ?busy,
    fun sl hslot hstate hbase => ?base⟩⟩⟩
  case bad => exact exec_retune_of_owner filler hready (retuneOwner_of_no_axis hsel) rfl
  case rate => exact exec_retune_of_owner filler hready (retuneOwner_of_bad_rate hrate) rfl
  case busy => exact exec_retune_of_owner filler hready (retuneOwner_of_busy hzero hlimit (retuned_none _ hbusy)) rfl
  case base =>
    have hretuned : ∃ sl', (s.axis x).retuned rate.toNat = some (sl, sl') :=
      hstate.elim (fun h => ⟨_, retuned_armed _ hslot h⟩) fun h => ⟨_, retuned_running _ hslot h.1 h.2⟩
    obtain ⟨sl', hsl'⟩ := hretuned
    exact exec_retune_of_owner filler hready (retuneOwner_of_base hzero hlimit hsl' hbase) rfl

section
variable {s : State} {sel : Byte} {value : Word} {x : Axis}

theorem exec_setPosition_of_owner {t : State} {status : Status} {reply : List Byte} (filler : List Byte) (hready : s.linkReady = true)
    (howner : setPositionOwner sel value s = ⟨status, reply, t⟩) (hlink : t.link = s.link) :
    exec (.setPosition sel value filler) s = .next (t.answered (.setPosition sel value filler) status reply) :=
  congrArg _ (takeRequest_of_owner (.setPosition sel value filler) hready rfl howner hlink)

theorem setPositionOwner_of_no_axis (hsel : namesNoAxis sel) :
    setPositionOwner sel value s = ⟨.invalid, 1#8 :: List.replicate 5 0#8, s⟩ := by
  simp only [setPositionOwner, axisOfSelector_of_namesNoAxis hsel]
  rfl

theorem setPositionOwner_of_busy (h : (s.axis x).state.holdsMove = true) :
    setPositionOwner x.selector value s = ⟨.busy, [0#8, (s.axis x).state.code] ++ bytes4 (s.axis x).position, s⟩ := by
  simp only [setPositionOwner, axisOfSelector_selector, h, if_true]
  rfl

theorem setCounter_axis (s : State) (x : Axis) (p : Word) : (s.setCounter x p).axis x = { s.axis x with position := p } := by
  rw [State.setCounter, seal_axis, onAxis_axis]

theorem setPositionOwner_of_free (h : (s.axis x).state.holdsMove = false) :
    setPositionOwner x.selector value s =
      ⟨.ok, [0#8, (s.axis x).state.code] ++ bytes4 value, s.setCounter x value⟩ := by
  simp only [setPositionOwner, axisOfSelector_selector, h, Bool.false_eq_true, if_false, setCounter_axis]
  rfl

end

/-- Settles O28: the selector, then whether the axis holds a move. -/
theorem setPositionSetsTheCounter : Obligations.SetPositionSetsTheCounter := by
  refine fun s value filler hready => ⟨fun sel hsel => ?bad, fun x => ⟨fun hbusy => ?busy, fun hfree => ?free⟩⟩
  case bad => exact exec_setPosition_of_owner filler hready (setPositionOwner_of_no_axis hsel) rfl
  case busy =>
    have hholds : (s.axis x).state.holdsMove = true := by obtain h | h | h := hbusy <;> rw [h] <;> rfl
    exact exec_setPosition_of_owner filler hready (setPositionOwner_of_busy hholds) rfl
  case free =>
    exact exec_setPosition_of_owner filler hready (setPositionOwner_of_free (holdsMove_eq_false hfree)) (setCounter_kept s x value).link

/-! ### Stations (R126, R128, R129) -/

section
variable {s : State} {n set : Byte} {k : Fin 32}

theorem exec_stationTeach_of_owner {t : State} {status : Status} {reply : List Byte} (filler : List Byte) (hready : s.linkReady = true)
    (howner : stationTeachOwner n set s = ⟨status, reply, t⟩) (hlink : t.link = s.link) :
    exec (.stationTeach n set filler) s = .next (t.answered (.stationTeach n set filler) status reply) :=
  congrArg _ (takeRequest_of_owner (.stationTeach n set filler) hready rfl howner hlink)

theorem exec_stationClear_of_owner {t : State} {status : Status} {reply : List Byte} (filler : List Byte) (hready : s.linkReady = true)
    (howner : stationClearOwner n set s = ⟨status, reply, t⟩) (hlink : t.link = s.link) :
    exec (.stationClear n set filler) s = .next (t.answered (.stationClear n set filler) status reply) :=
  congrArg _ (takeRequest_of_owner (.stationClear n set filler) hready rfl howner hlink)

theorem exec_stationRead_of_owner {status : Status} {reply : List Byte} (filler : List Byte) (hready : s.linkReady = true)
    (howner : stationReadOwner n s = ⟨status, reply, s⟩) :
    exec (.stationRead n filler) s = .next (s.answered (.stationRead n filler) status reply) :=
  congrArg _ (takeRequest_of_owner (.stationRead n filler) hready rfl howner rfl)

theorem stationTeachOwner_of_no_station (h : 31 < n.toNat) :
    stationTeachOwner n set s = ⟨.invalid, 0x28#8 :: stationItems n ⟨none, none⟩, s⟩ := by
  simp only [stationTeachOwner, stationOf_eq_none h, stationReply_eq, FieldCode.code, Station.empty]

theorem stationClearOwner_of_no_station (h : 31 < n.toNat) :
    stationClearOwner n set s = ⟨.invalid, 0x28#8 :: stationItems n ⟨none, none⟩, s⟩ := by
  simp only [stationClearOwner, stationOf_eq_none h, stationReply_eq, FieldCode.code, Station.empty]

theorem stationReadOwner_of_no_station (h : 31 < n.toNat) :
    stationReadOwner n s = ⟨.invalid, 0x28#8 :: stationItems n ⟨none, none⟩, s⟩ := by
  simp only [stationReadOwner, stationOf_eq_none h, stationReply_eq, FieldCode.code, Station.empty]

theorem stationReadOwner_of_station (h : k.val = n.toNat) : stationReadOwner n s = ⟨.ok, 0#8 :: stationItems n s.stations[k], s⟩ := by
  simp only [stationReadOwner, stationOf_eq_some h, stationReply_eq, FieldCode.code]

theorem stationTeachOwner_of_no_axes (h : k.val = n.toNat) (hset : namesNoAxes set) :
    stationTeachOwner n set s = ⟨.invalid, 1#8 :: stationItems n s.stations[k], s⟩ := by
  simp only [stationTeachOwner, stationOf_eq_some h, axesOfSelector_eq_none_iff.2 hset, stationReply_eq, FieldCode.code]

theorem stationClearOwner_of_no_axes (h : k.val = n.toNat) (hset : namesNoAxes set) :
    stationClearOwner n set s = ⟨.invalid, 1#8 :: stationItems n s.stations[k], s⟩ := by
  simp only [stationClearOwner, stationOf_eq_some h, axesOfSelector_eq_none_iff.2 hset, stationReply_eq, FieldCode.code]

theorem taught_eq (held : Station) : s.taught held (decide (set ≠ 2#8)) (decide (set ≠ 1#8)) =
    ⟨if set = 2#8 then held.a else some s.a.position, if set = 1#8 then held.b else some s.b.position⟩ := by
  simp [State.taught]

theorem cleared_eq (held : Station) : held.cleared (decide (set ≠ 2#8)) (decide (set ≠ 1#8)) =
    ⟨if set = 2#8 then held.a else none, if set = 1#8 then held.b else none⟩ := by
  simp [Station.cleared]

theorem stationTeachOwner_ok (h : k.val = n.toNat) (hset : ¬namesNoAxes set) {st : Station}
    (hst : st = ⟨if set = 2#8 then s.stations[k].a else some s.a.position, if set = 1#8 then s.stations[k].b else some s.b.position⟩) :
    stationTeachOwner n set s = ⟨.ok, 0#8 :: stationItems n st, s.setStation k st⟩ := by
  simp only [hst, stationTeachOwner, stationOf_eq_some h, axesOfSelector_named hset, taught_eq, stationReply_eq, FieldCode.code]

theorem stationClearOwner_ok (h : k.val = n.toNat) (hset : ¬namesNoAxes set) {st : Station}
    (hst : st = ⟨if set = 2#8 then s.stations[k].a else none, if set = 1#8 then s.stations[k].b else none⟩) :
    stationClearOwner n set s = ⟨.ok, 0#8 :: stationItems n st, s.setStation k st⟩ := by
  simp only [hst, stationClearOwner, stationOf_eq_some h, axesOfSelector_named hset, cleared_eq, stationReply_eq, FieldCode.code]

end

/-- Settles O30: the number, then the axis set. -/
theorem stationsAreTaughtClearedAndRead : Obligations.StationsAreTaughtClearedAndRead := by
  refine fun s n filler hready => ⟨fun hn => ?above, fun k hk => ⟨?read, fun set hset => ?bad, fun set hset => ⟨fun st hst => ?teach,
    fun st hst => ?clear⟩⟩⟩
  case above =>
    exact ⟨fun set => exec_stationTeach_of_owner filler hready (stationTeachOwner_of_no_station hn) rfl,
      fun set => exec_stationClear_of_owner filler hready (stationClearOwner_of_no_station hn) rfl,
      exec_stationRead_of_owner filler hready (stationReadOwner_of_no_station hn)⟩
  case read => exact exec_stationRead_of_owner filler hready (stationReadOwner_of_station hk)
  case bad =>
    exact ⟨exec_stationTeach_of_owner filler hready (stationTeachOwner_of_no_axes hk hset) rfl,
      exec_stationClear_of_owner filler hready (stationClearOwner_of_no_axes hk hset) rfl⟩
  case teach => exact exec_stationTeach_of_owner filler hready (stationTeachOwner_ok hk hset hst) rfl
  case clear => exact exec_stationClear_of_owner filler hready (stationClearOwner_ok hk hset hst) rfl

/-! ### CLEAR COLD FLAG (R172) -/

/-- Settles O38: its owner's one answer. -/
theorem clearColdFlagClearsIt : Obligations.ClearColdFlagClearsIt := by
  intro s filler hready
  have howner : clearColdFlagOwner s = ⟨.ok, [0#8], { s with coldFlag := false }⟩ := rfl
  exact congrArg _ (takeRequest_of_owner (.clearColdFlag filler) hready rfl howner rfl)

end Sys2Proof.Machine
end

section
/-! SUPPORT. What the engines' operations leave, each in one update (chapters 2 to 6 and 8). -/

namespace Sys2Proof.Machine

/-! ### Endings (R65 to R68) -/

theorem setSlot_setAxisState (s : State) (x : Axis) (sl : Option Slot) (st : AxisState) :
    (s.setSlot x sl).setAxisState x st = s.onAxis x (fun u => { u with slot := sl, state := st }) := onAxis_onAxis ..

theorem endMove_of_slot {s : State} {x : Axis} {sl : Slot} (kind : RecordKind) (cause : Cause) (after : AfterAction)
    (hslot : (s.axis x).slot = some sl) :
    s.endMove x kind cause after = (terminalWritten s x sl kind cause (after != .proceed)).moveOn x after := by
  simp only [State.endMove, hslot]
  rfl

theorem terminalWritten_axis (s : State) (x : Axis) (sl : Slot) (kind : RecordKind) (cause : Cause) (halted : Bool) (y : Axis) :
    (terminalWritten s x sl kind cause halted).axis y = s.axis y := convertReservation_axis s _ y

/-- Settles O21: the terminal record, then what each after-action leaves. -/
theorem endingWritesItsRecordAndMovesOn : Obligations.EndingWritesItsRecordAndMovesOn := by
  refine fun s x sl kind cause hslot => ⟨?proceed, ?halt, ?flush⟩
  case proceed =>
    rw [endMove_of_slot kind cause _ hslot]
    simp only [State.moveOn, setSlot_setAxisState, terminalWritten_axis]
    rfl
  case halt =>
    rw [endMove_of_slot kind cause _ hslot]
    simp only [State.moveOn, setSlot_setAxisState]
    rfl
  case flush =>
    rw [endMove_of_slot kind cause _ hslot]
    simp only [State.moveOn, setSlot_setAxisState]
    rfl

/-- Settles O52: each timer's guard. -/
theorem timersEndTheirMoves : Obligations.TimersEndTheirMoves := by
  intro s x hrunning
  have hlive : s.live = true := (live_iff s).2 hrunning
  have hdwell : exec (.dwellTimeout x) s = .next (s.dwellEnds x) := if_pos hlive
  have harm : exec (.armTimeout x) s = .next (s.armEnds x) := if_pos hlive
  rw [hdwell, harm]
  refine ⟨fun sl hslot => ?held, fun hslot => ?none⟩
  case held =>
    have hdwellEnds : s.dwellEnds x = if (s.axis x).state = .running ∧ sl.phase = .wait then s.endMove x .done .none .proceed else s := by
      simp only [State.dwellEnds, hslot]
    have harmEnds : s.armEnds x =
        if (s.axis x).state = .armed ∧ sl.armTimer.isSome = true then s.endMove x .refused .armTimeout .halt else s := by
      simp only [State.armEnds, hslot]
    rw [hdwellEnds, harmEnds]
    refine ⟨fun hstate hphase => ?_, fun hstate htimer => ?_, fun hnot => ?_, fun hnot => ?_⟩
    · rw [if_pos ⟨hstate, hphase⟩]
    · rw [if_pos ⟨hstate, Option.isSome_iff_ne_none.2 htimer⟩]
    · rw [if_neg (not_and_or.2 hnot)]
    · rw [if_neg (not_and_or.2 (hnot.imp_right fun h => by simp [h]))]
  case none => simp only [State.dwellEnds, State.armEnds, hslot, and_self]

/-! ### Stops (R85 to R95) -/

theorem stopKind_eq (cause : Cause) : cause.stopKind = stopRecordKind cause := rfl

theorem Cause.merge_spec (p r : Cause) : (p.merge r = p ∨ p.merge r = r) ∧ p.rank ≤ (p.merge r).rank ∧ r.rank ≤ (p.merge r).rank ∧
    (r.rank = p.rank → p.merge r = p) := by
  unfold Cause.merge
  split_ifs with h
  · exact ⟨.inr rfl, h.le, le_rfl, fun he => absurd he h.ne'⟩
  · exact ⟨.inl rfl, le_rfl, Nat.not_lt.1 h, fun _ => rfl⟩

theorem AfterAction.merge_spec (p r : AfterAction) : (p.merge r = p ∨ p.merge r = r) ∧ p.rank ≤ (p.merge r).rank ∧
    r.rank ≤ (p.merge r).rank := by
  unfold AfterAction.merge
  split_ifs with h
  · exact ⟨.inr rfl, h.le, le_rfl⟩
  · exact ⟨.inl rfl, le_rfl, Nat.not_lt.1 h⟩

section
variable {s : State} {x : Axis} {sl : Slot} (r : PendingStop) (hslot : (s.axis x).slot = some sl)
include hslot

theorem takeStop_of_armed (hstate : (s.axis x).state = .armed) : s.takeStop x r = s.endByStop x r.cause r.after := by
  simp only [State.takeStop, hslot, hstate]

theorem takeStop_of_running (hstate : (s.axis x).state = .running) : s.takeStop x r =
    if sl.phase.pulsing && (r.style == .ramped && sl.level != 0) then
      s.onAxis x (fun u => { u with state := .stopping, slot := some (sl.descend r) })
    else s.endByStop x r.cause r.after := by
  simp only [State.takeStop, hslot, hstate, setSlot_setAxisState]

theorem takeStop_of_stopping {p : PendingStop} (hstate : (s.axis x).state = .stopping) (hstop : sl.stop = some p) : s.takeStop x r =
    if r.style = .immediate then s.endByStop x (p.cause.merge r.cause) (p.after.merge r.after)
    else s.setSlot x (some { sl with stop := some ⟨p.style, p.cause.merge r.cause, p.after.merge r.after⟩ }) := by
  have hpending : sl.pendingStop = p := by rw [Slot.pendingStop, hstop]; rfl
  simp only [State.takeStop, hslot, hstate, hpending]
  rfl

end

/-- Settles O22: the ranks by evaluation, and the stop by the state of the axis that takes it. -/
theorem stopsActByStateStyleAndLevel : Obligations.StopsActByStateStyleAndLevel := by
  refine ⟨by decide, fun s x sl r hslot => ⟨takeStop_of_armed r hslot, fun hstate hnow => ?atOnce,
    fun n hstate hpulsing hstyle hlevel => ?descends, fun p hstate hstop => ?merges⟩⟩
  case atOnce =>
    rw [takeStop_of_running r hslot hstate]
    obtain h | h | h := hnow <;> simp [h, Phase.pulsing, State.endByStop, stopKind_eq]
  case descends =>
    rw [takeStop_of_running r hslot hstate, hpulsing, hstyle, hlevel]
    have hdescend : sl.descend r = { sl with
        phase := .stopping
        level := n
        stop := some r
        interval := sl.interval.map (fun _ => intervalOf (min (sl.snap.base + sl.snap.ramp * n) sl.snap.ceiling)) } := by
      simp only [Slot.descend, Slot.rescale, Slot.rate, Snapshot.rate, hlevel, Nat.add_sub_cancel]
    rw [hdescend]
    rfl
  case merges =>
    obtain ⟨hcause, hpending, hnew, hequal⟩ := Cause.merge_spec p.cause r.cause
    obtain ⟨hafter, hweaker, hstronger⟩ := AfterAction.merge_spec p.after r.after
    exact ⟨_, _, hcause, hpending, hnew, hequal, hafter, hweaker, hstronger, takeStop_of_stopping r hslot hstate hstop⟩

/-- An IDLE axis halts. -/
theorem haltWithoutMove_of_idle {s : State} {x : Axis} (cause : Cause) (flush : Bool) (hstate : (s.axis x).state = .idle) :
    s.haltWithoutMove x cause flush =
      (let t := (s.onAxis x (fun u => { u with state := .halted })).offerRecord (Entry.halt x cause (s.axis x).position)
       if flush then t.flushQueue x .hostStop else t).setEvent (haltedEvent x) := by
  simp [State.haltWithoutMove, hstate, setAxisState_eq]

/-- A BLOCKED axis halts, off the wait list first. -/
theorem haltWithoutMove_of_blocked {s : State} {x : Axis} (cause : Cause) (flush : Bool) (hstate : (s.axis x).state = .blocked) :
    s.haltWithoutMove x cause flush =
      (let t := ((s.leaveWaitList x).onAxis x (fun u => { u with state := .halted })).offerRecord
          (Entry.halt x cause (s.axis x).position)
       if flush then t.flushQueue x .hostStop else t).setEvent (haltedEvent x) := by
  simp [State.haltWithoutMove, hstate, setAxisState_eq]

theorem hostStop_without_move {s : State} {x : Axis} (style : Style) {after : AfterAction} (hafter : after ≠ .proceed)
    (hstate : (s.axis x).state = .idle ∨ (s.axis x).state = .blocked) :
    s.hostStop x style after = s.haltWithoutMove x .hostStop (after == .flush) := by
  obtain h | h := hstate <;> simp only [State.hostStop, h, if_neg hafter]

/-- Settles O23: the host's stop by the state of the axis. -/
theorem hostStopActsOnWhatTheAxisHolds : Obligations.HostStopActsOnWhatTheAxisHolds := by
  refine fun s x style => ⟨fun after hholds => ?moves, fun hfree => ?proceed, ?without, fun hstate => ?halted⟩
  case moves => cases hstate : (s.axis x).state <;> simp_all [AxisState.holdsMove, State.hostStop]
  case proceed => cases hstate : (s.axis x).state <;> simp_all [AxisState.holdsMove, State.hostStop]
  case without =>
    rintro h rfl
    refine ⟨fun hstate => ⟨?_, ?_⟩, fun hstate => ⟨?_, ?_⟩⟩
    · rw [hostStop_without_move style (by decide) (.inl hstate), haltWithoutMove_of_idle _ _ hstate]; rfl
    · rw [hostStop_without_move style (by decide) (.inl hstate), haltWithoutMove_of_idle _ _ hstate]; rfl
    · rw [hostStop_without_move style (by decide) (.inr hstate), haltWithoutMove_of_blocked _ _ hstate]; rfl
    · rw [hostStop_without_move style (by decide) (.inr hstate), haltWithoutMove_of_blocked _ _ hstate]; rfl
  case halted => simp [State.hostStop, hstate]

/-! ### The freed-space service (R146, R147) -/

theorem serveWaiting_of_full {s : State} (xs : List Axis) (h : s.journal.admits = false) : State.serveWaiting xs s = s := by
  cases xs <;> simp [State.serveWaiting, h]

theorem serveFreedSpace_of_no_loss {s : State} (h : s.journal.lost = 0) : s.serveFreedSpace = State.serveWaiting s.journal.waitList s :=
  if_pos h

/-- Settles O35: the GAP record leaves the wait list and no loss, and a granted head leaves the claims of the others. -/
theorem freedSpaceIsServedInOrder : Obligations.FreedSpaceIsServedInOrder := by
  refine fun s => ⟨fun hlost hwait => ?nothing, fun hfull => ?full, fun hlost hroom => ?gap, fun x rest hlost hwait hroom => ?grant⟩
  case nothing => rw [serveFreedSpace_of_no_loss hlost, hwait]; rfl
  case full =>
    have hrefused : s.journal.admits = false := by
      rw [Bool.eq_false_iff, ne_eq, admits_iff]
      omega
    unfold State.serveFreedSpace
    split
    · exact serveWaiting_of_full _ hrefused
    · rw [if_neg (by simp [hrefused])]
  case gap =>
    have hgap : s.serveFreedSpace = State.serveWaiting s.journal.waitList s.writeGap := by
      rw [State.serveFreedSpace, if_neg hlost.ne', if_pos ((admits_iff _).2 hroom)]
    have hnext : s.writeGap.serveFreedSpace = State.serveWaiting s.journal.waitList s.writeGap := by
      rw [serveFreedSpace_of_no_loss (by rw [writeGap_journal]), writeGap_waitList]
    exact hgap.trans hnext.symm
  case grant =>
    have hserved : s.serveFreedSpace = State.serveWaiting rest (s.grantHead x) := by
      rw [serveFreedSpace_of_no_loss hlost, hwait, State.serveWaiting, if_pos ((admits_iff _).2 hroom)]
    have hgranted : s.grantHead x = State.admitHead { s with journal := { s.journal with waitList := rest } } x := by
      rw [State.grantHead, hwait]
      rfl
    have hclaims := admitHead_claims { s with journal := { s.journal with waitList := rest } } x
    obtain ⟨hrest, hloss⟩ := Prod.mk.inj hclaims
    rw [hserved, hgranted, serveFreedSpace_of_no_loss (hloss.trans hlost), hrest]

/-! ### Targets and admission (R43 to R49) -/

theorem resolveTarget_leads {target position : Word} {d : Direction} {n : Nat}
    (h : resolveTarget target position = .ok (some d, some n)) :
    (d = .plus ∧ target = position + BitVec.ofNat 32 n) ∨ (d = .minus ∧ target = position - BitVec.ofNat 32 n) := by
  have hsum : position + (target - position) = target := by bv_omega
  unfold resolveTarget at h
  dsimp only at h
  split_ifs at h with hplus hminus
  · obtain ⟨rfl, rfl⟩ : Direction.plus = d ∧ (target - position).toInt.toNat = n := by simpa using h
    have hdiff : BitVec.ofNat 32 (target - position).toInt.toNat = target - position := by
      rw [← BitVec.ofInt_natCast, Int.toNat_of_nonneg hplus.1, BitVec.ofInt_toInt]
    exact .inl ⟨rfl, (hdiff ▸ hsum).symm⟩
  · obtain ⟨rfl, rfl⟩ : Direction.minus = d ∧ (-(target - position).toInt).toNat = n := by simpa using h
    have hdiff : BitVec.ofNat 32 (-(target - position).toInt).toNat = -(target - position) := by
      rw [← BitVec.ofInt_natCast, Int.toNat_of_nonneg (by omega), BitVec.ofInt_neg, BitVec.ofInt_toInt]
    exact .inr ⟨rfl, by rw [hdiff]; bv_omega⟩

section
variable {target position : Word}

theorem resolveTarget_plus (hlow : 0 ≤ (target - position).toInt) (hhigh : (target - position).toInt ≤ 16777215) :
    resolveTarget target position = .ok (some .plus, some (target - position).toInt.toNat) := if_pos ⟨hlow, hhigh⟩

theorem resolveTarget_minus (hlow : -16777215 ≤ (target - position).toInt) (hhigh : (target - position).toInt < 0) :
    resolveTarget target position = .ok (some .minus, some (-(target - position).toInt).toNat) :=
  (if_neg fun h => absurd h.1 (Int.not_le.2 hhigh)).trans (if_pos ⟨hlow, hhigh⟩)

theorem resolveTarget_range (hfar : 16777215 < (target - position).toInt ∨ (target - position).toInt < -16777215) :
    resolveTarget target position = .error .range := by
  have hlimit : Config.distanceLimit = 16777215 := rfl
  exact (if_neg (by omega)).trans (if_neg (by omega))

end

/-- Settles O47: the kinds by the definition, and the reduced difference by its range. -/
theorem targetsResolve : Obligations.TargetsResolve := by
  refine ⟨fun s x m => ⟨fun hkind => ?record, fun hkind => ?run, fun hkind => ?dwell, fun hkind => ?absolute, fun n hkind hn => ?station⟩,
    fun target position => ⟨fun hzero => ?zero, fun hlow hhigh => ?plus, fun hlow hhigh => ?minus, fun hfar => ?range,
      fun d n hresolves => ?leads⟩⟩
  case record => obtain h | h := hkind <;> simp only [State.resolve, h]
  case run => simp only [State.resolve, hkind]
  case dwell => simp only [State.resolve, hkind]
  case absolute => simp only [State.resolve, hkind]
  case station =>
    have hstation : s.station m.value.toNat = s.stations[n] := by
      rw [State.station, hn]
      simp
    simp only [State.resolve, hkind, hstation]
    cases x <;> rfl
  case zero => rw [resolveTarget_plus (by omega) (by omega), hzero]; rfl
  case plus => exact resolveTarget_plus (by omega) hhigh
  case minus => exact resolveTarget_minus hlow (by omega)
  case range => exact resolveTarget_range hfar
  case leads => obtain ⟨rfl, hleads⟩ | ⟨rfl, hleads⟩ := resolveTarget_leads hresolves <;> exact hleads

theorem headAdmitted_eq (s : State) (x : Axis) (m : Move) (rest : List Move) (target : Option Direction × Option Nat) :
    s.grantReservation.installMove x rest (Slot.admitted m s.profiles[m.profile] target) = headAdmitted s x m rest none target := rfl

theorem headAdmitted_axis_other (s : State) (x : Axis) (m : Move) (rest : List Move) (timer : Option Nat)
    (target : Option Direction × Option Nat) : (headAdmitted s x m rest timer target).axis x.other = s.axis x.other := by
  cases x <;> rfl

theorem loadArmTimer_headAdmitted (s : State) (x : Axis) (m : Move) (rest : List Move) (target : Option Direction × Option Nat) :
    (headAdmitted s x m rest none target).loadArmTimer x (Slot.admitted m s.profiles[m.profile] target) =
      headAdmitted s x m rest (if s.settings.armLimit = 0#16 then none else some s.settings.armLimit.toNat) target := by
  cases x <;> rfl

theorem pairWaiting_eq_none {u : AxisUnit} (h : ∀ sl, u.slot = some sl → u.state = .armed → sl.move.start ≠ .pair) :
    u.pairWaiting = none := by
  unfold AxisUnit.pairWaiting
  split
  next harmed => exact Option.filter_eq_none_iff.2 fun sl hsl => by simpa using h sl hsl harmed
  next => rfl

theorem pairWaiting_eq_some {u : AxisUnit} {sl : Slot} (hslot : u.slot = some sl) (hstate : u.state = .armed)
    (hpair : sl.move.start = .pair) : u.pairWaiting = some sl := by
  rw [AxisUnit.pairWaiting, if_pos hstate, hslot]
  simp [hpair]

section
variable {s : State} {x : Axis} {m : Move} {rest : List Move} {target : Option Direction × Option Nat}
  (hqueue : (s.axis x).queue = m :: rest)
include hqueue

theorem admitHead_of_error {cause : Cause} (h : s.resolve x m = .error cause) :
    s.admitHead x = (headAdmitted s x m rest none (none, none)).endMove x .refused cause .halt := by
  simp only [State.admitHead, hqueue, h, headAdmitted_eq]

theorem admitHead_of_now (h : s.resolve x m = .ok target) (hstart : m.start = .now) :
    s.admitHead x = (headAdmitted s x m rest none target).startMove x := by
  simp only [State.admitHead, hqueue, h, hstart, headAdmitted_eq]

theorem admitHead_of_line (h : s.resolve x m = .ok target) (hstart : m.start = .line) : s.admitHead x =
    headAdmitted s x m rest (if s.settings.armLimit = 0#16 then none else some s.settings.armLimit.toNat) target := by
  simp only [State.admitHead, hqueue, h, hstart, headAdmitted_eq, loadArmTimer_headAdmitted]

theorem admitHead_of_pair (h : s.resolve x m = .ok target) (hstart : m.start = .pair) :
    s.admitHead x = (headAdmitted s x m rest none target).arrivePair x (Slot.admitted m s.profiles[m.profile] target) := by
  simp only [State.admitHead, hqueue, h, hstart, headAdmitted_eq]

end

/-- The second arrival decides the pair, whichever axis arrives (R74). -/
theorem arrivePair_of_waiting {s : State} {x : Axis} {sl other slA slB : Slot} (hwaiting : (s.axis x.other).pairWaiting = some other)
    (hslot : (s.axis x).slot = some sl) (hother : (s.axis x.other).slot = some other) (hA : s.a.slot = some slA)
    (hB : s.b.slot = some slB) : s.arrivePair x sl = s.decidePair slA slB := by
  simp only [State.arrivePair, hwaiting]
  cases x with
  | A =>
    obtain rfl : sl = slA := Option.some.inj (hslot.symm.trans hA)
    obtain rfl : other = slB := Option.some.inj (hother.symm.trans hB)
    rfl
  | B =>
    obtain rfl : sl = slB := Option.some.inj (hslot.symm.trans hB)
    obtain rfl : other = slA := Option.some.inj (hother.symm.trans hA)
    rfl

/-- Settles O48: the attempt by its claim, and a granted head by its target and its start. -/
theorem admissionAttemptAdmitsTheHead : Obligations.AdmissionAttemptAdmitsTheHead := by
  intro s x hrunning
  have hexec : exec (.admissionAttempt x) s = .next (s.attemptAdmission x) := if_pos ((live_iff s).2 hrunning)
  rw [hexec]
  refine ⟨fun hnot => ?nothing, fun m rest hidle hqueue => ⟨fun hfull => ?full, fun hroom => ?granted⟩⟩
  case nothing =>
    have hnone : ¬((s.axis x).state = .idle ∧ (s.axis x).queue ≠ []) := by simpa only [not_and_or, not_not] using hnot
    rw [State.attemptAdmission, if_neg hnone]
  case full => exact congrArg _ (attemptAdmission_of_full hidle hqueue hfull)
  case granted =>
    rw [attemptAdmission_of_room hidle hqueue hroom]
    refine ⟨fun cause herror => congrArg _ (admitHead_of_error hqueue herror), ?_⟩
    rintro target timer htarget rfl
    refine ⟨fun hstart => congrArg _ (admitHead_of_now hqueue htarget hstart),
      fun hstart => congrArg _ (admitHead_of_line hqueue htarget hstart), fun hstart => ?_⟩
    rw [admitHead_of_pair hqueue htarget hstart]
    refine ⟨fun hnone => ?_, ?_⟩
    · have hwaiting : ((headAdmitted s x m rest none target).axis x.other).pairWaiting = none := by
        rw [headAdmitted_axis_other]; exact pairWaiting_eq_none hnone
      simp only [State.arrivePair, hwaiting, loadArmTimer_headAdmitted]
    · rintro sl t slA slB hother hstate hpair rfl hA hB
      rw [← headAdmitted_axis_other s x m rest none target] at hother hstate
      have hslot : ((headAdmitted s x m rest none target).axis x).slot = some (Slot.admitted m s.profiles[m.profile] target) := by
        cases x <;> rfl
      rw [arrivePair_of_waiting (pairWaiting_eq_some hother hstate hpair) hslot hother hA hB]

/-! ### Pulses (R55, R118 to R120) -/

/-- The sense that a pulse in a direction has (R118). -/
def senseOf : Direction → Sense
  | .plus => .up
  | .minus => .down

theorem fires_eq (m : Mark) (p : Word) (d : Direction) :
    m.fires p d = (m.position == p && (m.sense == .either || m.sense == senseOf d)) := by
  have hmatches (se : Sense) : se.matches d = (se == .either || se == senseOf d) := by cases se <;> cases d <;> rfl
  rw [Mark.fires, hmatches]

/-- The marks that do not fire are those not among the marks that do. -/
theorem filter_not_fires (ms : List Mark) (p : Word) (d : Direction) :
    ms.filter (fun m => !m.fires p d) = ms.filter (fun m => m ∉ ms.filter (fun m => m.fires p d)) := by
  refine List.filter_congr fun m hm => ?_
  simp [List.mem_filter, hm]

/-- The first four steps of a pulse in one update of the axis, and its MARK records. -/
theorem pulseMarked_eq (s : State) (x : Axis) (sl : Slot) (d : Direction) (p : Word) (fired : List Mark)
    (hp : p = stepCounter (s.axis x).position d) (hfired : fired = (s.axis x).marks.filter (fun m => m.fires p d)) :
    (s.stepOut x sl d).fireMarks x sl.countPulse d =
      fired.foldl (fun t m => t.offerRecord (Entry.mark x m sl.move.tag (sl.delivered + 1#32)))
        (State.seal (s.onAxis x (fun u => { u with
          stepEdges := u.stepEdges + 1
          position := p
          slot := some sl.countPulse
          marks := u.marks.filter (fun m => m ∉ fired) }))) := by
  have hmarks : ((s.stepOut x sl d).axis x).marks = (s.axis x).marks := by cases x <;> rfl
  have hposition : ((s.stepOut x sl d).axis x).position = p := by rw [hp]; cases x <;> rfl
  have hbase : (s.stepOut x sl d).setMarks x ((s.axis x).marks.filter (fun m => !m.fires p d)) =
      State.seal (s.onAxis x (fun u => { u with
        stepEdges := u.stepEdges + 1
        position := p
        slot := some sl.countPulse
        marks := u.marks.filter (fun m => m ∉ fired) })) := by
    rw [filter_not_fires, ← hfired, hp]
    cases x <;> rfl
  rw [State.fireMarks, offerMarks_eq_foldl]
  rw [hmarks, hposition, hbase, ← hfired]
  rfl

/-- Settles O50: the five steps, each fired mark's record at the position it has. -/
theorem pulseTakesItsFiveSteps : Obligations.PulseTakesItsFiveSteps := by
  intro s x hrunning
  have hexec : exec (.pulse x) s = .next (s.emitPulse x) := if_pos ((live_iff s).2 hrunning)
  rw [hexec]
  refine ⟨fun hquiet => ?quiet, ?pulse⟩
  case quiet =>
    unfold State.emitPulse
    split
    · rfl
    · simp [hquiet]
  case pulse =>
    rintro sl sl' d p fired hemitting hslot hdir hp rfl hfired
    have hemit : s.emitPulse x = ((s.stepOut x sl d).fireMarks x sl.countPulse d).afterPulse x sl.countPulse := by
      simp only [State.emitPulse, hslot, hemitting, if_true, hdir]
    have hfires : fired = (s.axis x).marks.filter (fun m => m.fires p d) := by
      cases d <;> simp only [hfired, fires_eq, senseOf]
    have hcounter : p = stepCounter (s.axis x).position d := by cases d <;> exact hp
    rw [hemit, pulseMarked_eq s x sl d p fired hcounter hfires]
    have hrecords (t : State) : fired.foldl (fun t m => t.offerRecord (Entry.mark x m sl.move.tag (sl.delivered + 1#32))) t =
        fired.foldl (fun t m => t.offerRecord
          ⟨.mark, some x, false, some sl.move.tag, .none, m.id, sl.delivered + 1#32, p, some (sl.move.tag, 0#16)⟩) t := by
      refine List.foldl_ext _ _ _ fun t m hm => ?_
      have hposition : m.position = p := by
        rw [hfires, List.mem_filter, Mark.fires, Bool.and_eq_true, beq_iff_eq] at hm
        exact hm.2.1
      rw [Entry.mark, hposition]
    rw [hrecords]
    rfl

/-! ### The update after a pulse (R28 to R34) -/

section
variable {s : State} {x : Axis} {sl : Slot}

theorem afterPulse_running_ends (hstate : (s.axis x).state = .running) (h : sl.updateRunning = .ends) :
    s.afterPulse x sl = s.endByCount x sl := by
  have hne : (s.axis x).state ≠ .stopping := by rw [hstate]; decide
  simp only [State.afterPulse, if_neg hne, h]

theorem afterPulse_running_goes {sl' : Slot} (hstate : (s.axis x).state = .running) (h : sl.updateRunning = .goes sl') :
    s.afterPulse x sl = s.setSlot x (some sl'.beginInterval) := by
  have hne : (s.axis x).state ≠ .stopping := by rw [hstate]; decide
  simp only [State.afterPulse, if_neg hne, h]

theorem afterPulse_stopping_ends {p : PendingStop} (hstate : (s.axis x).state = .stopping) (hstop : sl.stop = some p)
    (h : sl.updateStopping = .ends) : s.afterPulse x sl = s.endMove x (stopRecordKind p.cause) p.cause p.after := by
  have hpending : sl.pendingStop = p := by rw [Slot.pendingStop, hstop]; rfl
  simp only [State.afterPulse, if_pos hstate, h, hpending]
  rfl

theorem afterPulse_stopping_goes {sl' : Slot} (hstate : (s.axis x).state = .stopping) (h : sl.updateStopping = .goes sl') :
    s.afterPulse x sl = s.setSlot x (some sl'.beginInterval) := by
  simp only [State.afterPulse, if_pos hstate, h]

end

/-- The next interval begun is that of the slot's own phase, level and ceiling (R54). -/
theorem beginInterval_eq (sl : Slot) : sl.beginInterval = nextInterval sl sl.phase sl.level sl.snap.ceiling := rfl

theorem remaining_of_distance {sl : Slot} {d : Nat} (h : sl.distance = some d) : sl.remaining = some (d - sl.delivered.toNat) := by
  rw [Slot.remaining, h]; rfl

/-- The phases of the ramp advance where no test applies (R28, R30, R31). -/
theorem updateRunning_of_far {sl : Slot} (hphase : sl.phase.retunable = true)
    (hfar : sl.distance = none ∨ ∃ d, sl.distance = some d ∧ sl.level + sl.snap.settle < d - sl.delivered.toNat) :
    sl.updateRunning = .goes sl.advance := by
  obtain hnone | ⟨d, hd, hfar⟩ := hfar
  · simp [Slot.updateRunning, Slot.remaining, hnone, hphase]
  · have hne : d - sl.delivered.toNat ≠ 0 := by omega
    simp [Slot.updateRunning, remaining_of_distance hd, hne, Nat.not_le.2 hfar]

theorem updateRunning_of_count {sl : Slot} {d : Nat} (hd : sl.distance = some d) (hcount : d ≤ sl.delivered.toNat) :
    sl.updateRunning = .ends := by
  simp [Slot.updateRunning, remaining_of_distance hd, Nat.sub_eq_zero_of_le hcount]

/-- The deceleration test (R28, R29). -/
theorem updateRunning_of_near {sl : Slot} {d : Nat} (hd : sl.distance = some d) (hcount : sl.delivered.toNat < d)
    (hphase : sl.phase.retunable = true) (hnear : d - sl.delivered.toNat ≤ sl.level + sl.snap.settle) :
    sl.updateRunning = .goes sl.decelerate := by
  have hne : d - sl.delivered.toNat ≠ 0 := by omega
  simp only [Slot.updateRunning, remaining_of_distance hd, if_neg hne, hphase, hnear, and_self, if_true]

/-- Past the deceleration test the phase advances alone (R30). -/
theorem updateRunning_of_decel {sl : Slot} {d : Nat} (hd : sl.distance = some d) (hcount : sl.delivered.toNat < d)
    (hphase : sl.phase.retunable = false) : sl.updateRunning = .goes sl.advance := by
  have hne : d - sl.delivered.toNat ≠ 0 := by omega
  simp only [Slot.updateRunning, remaining_of_distance hd, if_neg hne, hphase, Bool.false_eq_true, false_and, if_false]

theorem updateStopping_of_end {sl : Slot} (h : sl.level = 0 ∨ ∃ d, sl.distance = some d ∧ d ≤ sl.delivered.toNat) :
    sl.updateStopping = .ends := by
  have hends : sl.remaining = some 0 ∨ sl.level = 0 := by
    obtain hlevel | ⟨d, hd, hcount⟩ := h
    · exact .inr hlevel
    · exact .inl (by rw [remaining_of_distance hd, Nat.sub_eq_zero_of_le hcount])
  exact if_pos hends

theorem updateStopping_of_descent {sl : Slot} (hlevel : 0 < sl.level) (hcount : ∀ d, sl.distance = some d → sl.delivered.toNat < d) :
    sl.updateStopping = .goes { sl with level := sl.level - 1 } := by
  refine if_neg ?_
  rintro (hends | hzero)
  · obtain ⟨d, hd, hremaining⟩ := remaining_eq_some_iff.1 hends
    have := hcount d hd
    omega
  · omega

/-- Settles O51: which update applies, and the slot that each leaves. -/
theorem rateLawFollowsEachPulse : Obligations.RateLawFollowsEachPulse := by
  refine fun s x sl => ⟨fun hstate d hd => ⟨fun hcount => ?ends, fun hcount => ⟨fun hphase hnear => ?decelerates,
    fun hphase => ?decel, fun hphase => ?settle⟩⟩, fun hstate hfar => ⟨fun hphase => ?accel, fun hphase => ?cruise, fun hphase => ?slowing⟩,
    fun p hstate hstop hphase => ⟨fun hends => ?stops, fun hlevel hcount => ?descends⟩⟩
  case ends => exact afterPulse_running_ends hstate (updateRunning_of_count hd hcount)
  case decelerates =>
    have hretunable : sl.phase.retunable = true := by obtain h | h | h := hphase <;> rw [h] <;> rfl
    rw [afterPulse_running_goes hstate (updateRunning_of_near hd hcount hretunable hnear)]
    rfl
  case decel =>
    rw [afterPulse_running_goes hstate (updateRunning_of_decel hd hcount (by rw [hphase]; rfl)), beginInterval_eq]
    simp only [Slot.advance, hphase]
    rfl
  case settle =>
    rw [afterPulse_running_goes hstate (updateRunning_of_decel hd hcount (by rw [hphase]; rfl)), beginInterval_eq]
    simp only [Slot.advance, hphase]
  case accel =>
    rw [afterPulse_running_goes hstate (updateRunning_of_far (by rw [hphase]; rfl) hfar), beginInterval_eq]
    simp only [Slot.advance, hphase]
    rfl
  case cruise =>
    rw [afterPulse_running_goes hstate (updateRunning_of_far (by rw [hphase]; rfl) hfar), beginInterval_eq]
    simp only [Slot.advance, hphase]
  case slowing =>
    rw [afterPulse_running_goes hstate (updateRunning_of_far (by rw [hphase]; rfl) hfar), beginInterval_eq]
    simp only [Slot.advance, hphase]
    split
    · rfl
    · rfl
  case stops => exact afterPulse_stopping_ends hstate hstop (updateStopping_of_end hends)
  case descends =>
    rw [afterPulse_stopping_goes hstate (updateStopping_of_descent hlevel hcount), beginInterval_eq, ← hphase]
    rfl

end Sys2Proof.Machine
end

section
/-! SUPPORT. What the lines do to the engines that take them, and the moments of a reset (chapters 3 to 5 and 9, R205). -/

namespace Sys2Proof.Machine

/-! ### An axis's own lines (R61, R62, R98 to R101) -/

theorem limitPinAt_eq (s : State) (x : Axis) (side : Direction) (v : Bool) : limitPinAt s x side v = s.setLimitPin x side v := by
  cases x <;> cases side <;> rfl

theorem limitLineAt_eq (s : State) (x : Axis) (side : Direction) (v : Bool) : limitLineAt s x side v = s.setLimitLine x side v := by
  cases x <;> cases side <;> rfl

theorem homeAt_some (s : State) (x : Axis) (v w : Bool) : homeAt s x v (some w) = (s.setHomePin x v).setHomeLine x w := by
  cases x <;> rfl

theorem homeAt_none (s : State) (x : Axis) (v : Bool) : homeAt s x v none = s.setHomePin x v := by
  cases x <;> rfl

/-- A limit pin and its line at a level leave the axis its other registers. -/
theorem setLimitLine_axis (s : State) (x : Axis) (side : Direction) (v : Bool) :
    ((s.setLimitPin x side v).setLimitLine x side v).axis x = { s.axis x with lines := (s.axis x).lines.setLimit side v } := by
  cases x <;> rfl

theorem setHomeLine_axis (s : State) (x : Axis) (v : Bool) :
    ((s.setHomePin x v).setHomeLine x v).axis x = { s.axis x with lines := { (s.axis x).lines with home := v } } := by
  cases x <;> rfl

/-- An axis with other lines or reports emits pulses where it did. -/
theorem emitting_congr {u v : AxisUnit} (hslot : v.slot = u.slot) (hstate : v.state = u.state) : v.emitting = u.emitting := by
  rw [AxisUnit.emitting, AxisUnit.emitting, hslot, hstate]

theorem limitStop_of_not_emitting {s : State} {x : Axis} (side : Direction) (h : (s.axis x).emitting = false) :
    s.limitStop x side = s := by
  unfold State.limitStop
  split
  · rfl
  · rw [h]; rfl

theorem limitStop_of_slot {s : State} {x : Axis} {sl : Slot} (side : Direction) (hslot : (s.axis x).slot = some sl) :
    s.limitStop x side = if (s.axis x).emitting = true ∧ sl.direction = some side then s.takeStop x ⟨sl.snap.limitStyle, .limit, .halt⟩
      else s := by
  simp [State.limitStop, hslot]

/-- Settles O43: the guard of the limit line's stop, read on the part with the pin and the line at their levels. -/
theorem limitAssertionStopsTheMoveTowardIt : Obligations.LimitAssertionStopsTheMoveTowardIt := by
  rintro s u x side hrunning rfl
  have hlive := (live_iff s).2 hrunning
  rw [limitPinAt_eq, limitLineAt_eq, ← limit_eq_limitLevel]
  have hexec : exec (.limitAssert x side) s = if (s.axis x).lines.limit side = true then .next (s.setLimitPin x side true)
      else .next (((s.setLimitPin x side true).setLimitLine x side true).limitStop x side) := if_pos hlive
  have haxis := setLimitLine_axis s x side true
  have hslot := congrArg AxisUnit.slot haxis
  have hemitting := emitting_congr hslot (congrArg AxisUnit.state haxis)
  refine ⟨fun hasserted => hexec.trans (if_pos hasserted), fun hfree => ?_⟩
  rw [hexec, if_neg (by simp [hfree])]
  refine ⟨fun sl hsl hpulses hside => ?_, fun hnot => ?_, fun sl hsl hside => ?_⟩
  · rw [limitStop_of_slot side (hslot.trans hsl), if_pos ⟨hemitting.trans hpulses, hside⟩]
  · rw [limitStop_of_not_emitting side (hemitting.trans hnot)]
  · rw [limitStop_of_slot side (hslot.trans hsl), if_neg (fun h => hside h.2)]

theorem homeFound_of_not_emitting {s : State} {x : Axis} (h : (s.axis x).emitting = false) : s.homeFound x = s := by
  unfold State.homeFound
  split
  · rfl
  · rw [if_neg (by simp [h])]

theorem homeFound_of_slot {s : State} {x : Axis} {sl : Slot} (hslot : (s.axis x).slot = some sl) :
    s.homeFound x = if sl.move.kind = .home ∧ (s.axis x).emitting = true then
      if (s.axis x).state = .stopping then (s.captureOnce x sl).mergeHomeFound x
      else (s.captureOnce x sl).takeStop x ⟨sl.snap.homeStyle, .homeFound, .proceed⟩
    else s := by
  simp only [State.homeFound, hslot]

/-- A home switch found in STOPPING raises the pending cause alone (R98). -/
theorem mergeHomeFound_of_stop {s : State} {x : Axis} {sl : Slot} {p : PendingStop} (hslot : (s.axis x).slot = some sl)
    (hstop : sl.stop = some p) : s.mergeHomeFound x = s.onAxis x (fun w => { w with
      slot := w.slot.map (fun z => { z with
        stop := some { p with cause := if p.cause.rank < Cause.homeFound.rank then .homeFound else p.cause } }) }) := by
  have hpending : sl.pendingStop = p := by rw [Slot.pendingStop, hstop]; rfl
  simp only [State.mergeHomeFound, hslot, hpending]
  simp only [State.setSlot, State.onAxis, hslot]
  rfl

/-- Settles O44: the guard of the home line's stop, read on the part with the pin and the line at their levels. -/
theorem homeAssertionCapturesAndStops : Obligations.HomeAssertionCapturesAndStops := by
  rintro s u x hrunning rfl
  have hlive := (live_iff s).2 hrunning
  rw [homeAt_some, homeAt_none]
  have hexec : exec (.homeAssert x) s = if (s.axis x).lines.home = true then .next (s.setHomePin x true)
      else .next (((s.setHomePin x true).setHomeLine x true).homeFound x) := if_pos hlive
  have haxis := setHomeLine_axis s x true
  have hslot := congrArg AxisUnit.slot haxis
  have hstate := congrArg AxisUnit.state haxis
  have hemitting := emitting_congr hslot hstate
  refine ⟨fun hasserted => hexec.trans (if_pos hasserted), fun hfree => ?_⟩
  rw [hexec, if_neg (by simp [hfree])]
  refine ⟨fun hnot => ?_, fun sl hsl => ⟨fun hkind => ?_, fun hkind hpulses => ⟨fun hrun => ?_, fun p hstopping hstop => ?_⟩⟩⟩
  · rw [homeFound_of_not_emitting (hemitting.trans hnot)]
  · rw [homeFound_of_slot (hslot.trans hsl), if_neg (fun h => hkind h.1)]
  · rw [homeFound_of_slot (hslot.trans hsl), if_pos ⟨hkind, hemitting.trans hpulses⟩, if_neg (by simp [hstate, hrun]),
      captureOnce_eq_capturedOnce]
  · obtain ⟨-, n, hcaptured⟩ := captureOnce_axis (hslot.trans hsl)
    rw [homeFound_of_slot (hslot.trans hsl), if_pos ⟨hkind, hemitting.trans hpulses⟩, if_pos (hstate.trans hstopping),
      mergeHomeFound_of_stop hcaptured hstop, captureOnce_eq_capturedOnce]

/-! ### Reports of the shared lines (R72, R73, R103 to R105, R205) -/

theorem exec_reportCommand (s : State) (x : Axis) (r : Report) : exec (reportCommand x r) s = .next (s.report x r) := by
  cases r with
  | emergency v => cases v <;> rfl
  | sync h => cases h <;> rfl

theorem lineChanged_eq (s : State) (r : Report) : lineChanged s r = s.lineChanges r := by cases r <;> rfl

theorem pinAt_eq (s : State) (r : Report) : pinAt s r = s.pins.holds r := by cases r <;> rfl

theorem ofOneLine_iff (q r : Report) : ofOneLine q r ↔ q.sameLine r = true := by
  cases q <;> cases r <;> simp [ofOneLine, Report.sameLine]

theorem sameLine_comm (q r : Report) : q.sameLine r = r.sameLine q := by cases q <;> cases r <;> rfl

section
variable {s u : State} {x : Axis} {r : Report}

/-- The part in which an engine takes a report has the axis's registers and the settings, and the report is outstanding to the engine. -/
theorem reportMeets_same (h : reportMeets s x r u) : r ∈ (u.axis x).reports ∧
    u.axis x = { s.axis x with reports := (u.axis x).reports } ∧ u.power = s.power ∧ u.settings = s.settings := by
  obtain ⟨hmem, rfl⟩ | ⟨-, -, rfl⟩ := h
  · exact ⟨hmem, rfl, rfl, rfl⟩
  · rw [lineChanged_eq, lineChanges_axis]
    exact ⟨List.mem_append_right _ (List.mem_singleton_self r), rfl, rfl, rfl⟩

/-- A report's command takes what is outstanding of its line up to the report, in the part that it meets. -/
theorem report_of_meets (hrunning : s.power = .running) (h : reportMeets s x r u) : s.report x r = u.takeThrough x r := by
  have hlive := (live_iff s).2 hrunning
  obtain ⟨hmem, rfl⟩ | ⟨hnew, hpin, rfl⟩ := h
  · rw [State.report, if_pos hlive, if_pos hmem]
  · rw [State.report, if_pos hlive, if_neg hnew, if_neg (by simp [← pinAt_eq, hpin]), lineChanged_eq]

/-- A report that none of its line stands before is taken alone. -/
theorem exec_report_first {pre post : List Report} (hrunning : s.power = .running) (hmeets : reportMeets s x r u)
    (hreports : (u.axis x).reports = pre ++ r :: post) (hpre : ∀ q ∈ pre, q.sameLine r = false) :
    exec (reportCommand x r) s = .next ((u.setReports x (pre ++ post)).takeReport x r) := by
  rw [exec_reportCommand, report_of_meets hrunning hmeets, takeThrough_first u x r pre post hreports hpre]

end

/-- An engine takes the emergency line's level, its other reports outstanding: a new assertion stops the axis (R103 to R105). -/
theorem takeReport_emergency (u : State) (x : Axis) (rs : List Report) (v : Bool) :
    (u.setReports x rs).takeReport x (.emergency v) =
      (let w := u.onAxis x (fun w => { w with reports := rs, lines := { w.lines with emergency := v } })
       if v && !(u.axis x).lines.emergency then w.emergencyStop x else w) := by
  cases x <;> rfl

/-- An engine takes the sync line's level, its other reports outstanding: a fall is an edge (R72, R73). -/
theorem takeReport_sync (u : State) (x : Axis) (rs : List Report) (v : Bool) :
    (u.setReports x rs).takeReport x (.sync v) =
      (let w := u.onAxis x (fun w => { w with reports := rs, lines := { w.lines with syncHigh := v } })
       if !v && (u.axis x).lines.syncHigh then w.syncEdge x else w) := by
  cases x <;> rfl

theorem sameLine_emergency_of_sync {pre : List Report} (v : Bool) (h : ∀ q ∈ pre, ∃ h, q = .sync h) :
    ∀ q ∈ pre, q.sameLine (.emergency v) = false := by
  intro q hq
  obtain ⟨_, rfl⟩ := h q hq
  rfl

theorem sameLine_sync_of_emergency {pre : List Report} (v : Bool) (h : ∀ q ∈ pre, ∃ v, q = .emergency v) :
    ∀ q ∈ pre, q.sameLine (.sync v) = false := by
  intro q hq
  obtain ⟨_, rfl⟩ := h q hq
  rfl

/-- Settles O42: an axis's own line changes its pin and level at once, and a shared line's release or rise is taken and acts on
nothing. -/
theorem releasesChangeLevelsAlone : Obligations.ReleasesChangeLevelsAlone := by
  intro s x hrunning
  have hlive := (live_iff s).2 hrunning
  refine ⟨fun side => ?limit, ?home, fun u pre post hmeets hreports hpre => ?emergency, fun u pre post hmeets hreports hpre => ?sync⟩
  case limit =>
    rw [limitPinAt_eq, limitLineAt_eq]
    exact if_pos hlive
  case home =>
    rw [homeAt_some]
    exact if_pos hlive
  case emergency =>
    have htaken := exec_report_first hrunning hmeets hreports (sameLine_emergency_of_sync false hpre)
    rwa [takeReport_emergency] at htaken
  case sync =>
    have htaken := exec_report_first hrunning hmeets hreports (sameLine_sync_of_emergency true hpre)
    rwa [takeReport_sync] at htaken

theorem emergencyStop_of_holdsMove {s : State} {x : Axis} (h : (s.axis x).state.holdsMove = true) :
    s.emergencyStop x = s.takeStop x ⟨s.settings.emergencyStyle, .emergency, .halt⟩ := by
  cases hstate : (s.axis x).state with
  | armed | running | stopping => simp only [State.emergencyStop, hstate]
  | idle | blocked | halted => rw [hstate] at h; cases h

theorem emergencyStop_without_move {s : State} {x : Axis} (h : (s.axis x).state = .idle ∨ (s.axis x).state = .blocked) :
    s.emergencyStop x = s.haltWithoutMove x .emergency false := by
  obtain hstate | hstate := h <;> simp only [State.emergencyStop, hstate]

theorem emergencyStop_of_halted {s : State} {x : Axis} (h : (s.axis x).state = .halted) : s.emergencyStop x = s := by
  simp only [State.emergencyStop, h]

theorem syncEdge_of_armed {s : State} {x : Axis} {sl : Slot} (hslot : (s.axis x).slot = some sl) (hstate : (s.axis x).state = .armed)
    (hstart : sl.move.start = .line) : s.syncEdge x = s.startMove x := by
  simp [State.syncEdge, hslot, hstate, hstart]

theorem syncEdge_of_not_waiting {s : State} {x : Axis}
    (h : (s.axis x).state ≠ .armed ∨ ∃ sl, (s.axis x).slot = some sl ∧ sl.move.start ≠ .line) : s.syncEdge x = s := by
  obtain hstate | ⟨sl, hslot, hstart⟩ := h
  · unfold State.syncEdge
    split
    · rfl
    · rw [if_neg fun h => hstate h.1]
  · simp [State.syncEdge, hslot, hstart]

/-! ### Several reports of one line (R205, log 7) -/

theorem oldest_of_sameLine {q r : Report} {pre rest : List Report} (hpre : ∀ k ∈ pre, k.sameLine r = false) (hq : q.sameLine r = true) :
    r.oldest (pre ++ q :: rest) = some (q, pre ++ rest) := by
  induction pre with
  | nil => simp [Report.oldest, hq]
  | cons k ks ih =>
    obtain ⟨hk, hks⟩ := List.forall_mem_cons.1 hpre
    simp [Report.oldest, hk, ih hks]

/-- An earlier report of the line stands one place before. -/
theorem place_of_sameLine {q r : Report} {pre : List Report} (rest : List Report) (hpre : ∀ k ∈ pre, k.sameLine r = false)
    (hq : q.sameLine r = true) (hne : q ≠ r) : r.place (pre ++ q :: rest) = r.place (pre ++ rest) + 1 := by
  induction pre with
  | nil => simp [Report.place, hq, hne]
  | cons k ks ih =>
    obtain ⟨hk, hks⟩ := List.forall_mem_cons.1 hpre
    have hkr : k ≠ r := by
      rintro rfl
      rw [sameLine_refl] at hk
      cases hk
    simp [Report.place, hk, hkr, ih hks]

/-- A report's command, with an earlier one of its line outstanding, is that one's command and then its own. -/
theorem exec_report_of_earlier {s u t : State} {x : Axis} {q r : Report} {pre rest : List Report} (hrunning : s.power = .running)
    (hmeets : reportMeets s x r u) (hreports : (u.axis x).reports = pre ++ q :: rest) (hpre : ∀ k ∈ pre, k.sameLine r = false)
    (hq : q.sameLine r = true) (hne : q ≠ r) (hexec : exec (reportCommand x q) u = .next t) :
    exec (reportCommand x r) s = exec (reportCommand x r) t := by
  obtain ⟨hmem, -, hpower, -⟩ := reportMeets_same hmeets
  have hrunning' : u.power = .running := hpower.trans hrunning
  have hqmem : q ∈ (u.axis x).reports := by simp [hreports]
  have hpreq : ∀ k ∈ pre, k.sameLine q = false := fun k hk => (sameLine_congr hq k).trans (hpre k hk)
  obtain rfl : (u.setReports x (pre ++ rest)).takeReport x q = t :=
    Host.Outcome.next.inj ((exec_report_first hrunning' (.inl ⟨hqmem, rfl⟩) hreports hpreq).symm.trans hexec)
  have hleft : (((u.setReports x (pre ++ rest)).takeReport x q).axis x).reports = pre ++ rest := by
    rw [takeReport_reports, setReports_axis]
  have hstands : r ∈ pre ++ rest := by
    rw [hreports, List.mem_append, List.mem_cons] at hmem
    rw [List.mem_append]
    exact hmem.imp_right fun h => h.resolve_left hne.symm
  have hrunning'' : ((u.setReports x (pre ++ rest)).takeReport x q).power = .running := by
    rw [(takeReport_acts _ x q).lasting.power]
    exact (onAxis_power u x _).trans hrunning'
  rw [exec_reportCommand, exec_reportCommand, report_of_meets hrunning hmeets,
    report_of_meets hrunning'' (.inl ⟨hleft.symm ▸ hstands, rfl⟩), State.takeThrough, State.takeThrough, hreports, hleft,
    place_of_sameLine rest hpre hq hne, State.takeLines, State.takeLine, hreports, oldest_of_sameLine hpre hq]

/-- Settles O45: what an engine does with the report it takes, and the reports of a line one after another. -/
theorem sharedLinesActOnTheirEngine : Obligations.SharedLinesActOnTheirEngine := by
  refine fun s x hrunning => ⟨?emergency, ?sync, fun r => ⟨fun hnew hpin => ?unchanged, ?chain⟩⟩
  case emergency =>
    rintro v pre post w h hmeets hreports hpre hw rfl
    have htaken : exec (.emergencyAssert x) s = .next (if !(v.axis x).lines.emergency then w.emergencyStop x else w) := by
      have hfirst := exec_report_first hrunning hmeets hreports (sameLine_emergency_of_sync true hpre)
      rw [takeReport_emergency, ← hw, Bool.true_and] at hfirst
      exact hfirst
    obtain ⟨-, haxis, -, hsettings⟩ := reportMeets_same hmeets
    have hlines : (v.axis x).lines = (s.axis x).lines := by rw [haxis]
    have hstate : (w.axis x).state = (s.axis x).state := by rw [hw, onAxis_axis, haxis]
    have hposition : (w.axis x).position = (s.axis x).position := by rw [hw, onAxis_axis, haxis]
    have hstyle : w.settings = s.settings := by rw [hw, onAxis_settings, hsettings]
    rw [htaken, hlines]
    refine ⟨fun hnothing => ?_, fun hreleased => ⟨fun hholds => ?_, fun hidle => ?_, fun hblocked => ?_⟩⟩
    · obtain hasserted | hhalted := hnothing
      · rw [hasserted]; rfl
      · rw [emergencyStop_of_halted (hstate.trans hhalted), ite_self]
    · rw [if_pos (by simp [hreleased]), emergencyStop_of_holdsMove (by rwa [hstate]), hstyle]
    · rw [if_pos (by simp [hreleased]), emergencyStop_without_move (.inl (hstate.trans hidle)),
        haltWithoutMove_of_idle _ _ (hstate.trans hidle), hposition]
      rfl
    · rw [if_pos (by simp [hreleased]), emergencyStop_without_move (.inr (hstate.trans hblocked)),
        haltWithoutMove_of_blocked _ _ (hstate.trans hblocked), hposition]
      rfl
  case sync =>
    intro v pre post w hmeets hreports hpre hw
    have htaken : exec (.syncFallingEdge x) s = .next (if (v.axis x).lines.syncHigh then w.syncEdge x else w) := by
      have hfirst := exec_report_first hrunning hmeets hreports (sameLine_sync_of_emergency false hpre)
      rw [takeReport_sync, ← hw, Bool.not_false, Bool.true_and] at hfirst
      exact hfirst
    obtain ⟨-, haxis, -, -⟩ := reportMeets_same hmeets
    have hlines : (v.axis x).lines = (s.axis x).lines := by rw [haxis]
    have hstate : (w.axis x).state = (s.axis x).state := by rw [hw, onAxis_axis, haxis]
    have hslot : (w.axis x).slot = (s.axis x).slot := by rw [hw, onAxis_axis, haxis]
    rw [htaken, hlines]
    refine ⟨fun ⟨⟨sl, hsl, harmed, hstart⟩, hhigh⟩ => ?_, fun hnothing => ?_⟩
    · rw [if_pos hhigh, syncEdge_of_armed (hslot.trans hsl) (hstate.trans harmed) hstart]
    · obtain hlow | hnot := hnothing
      · rw [hlow]; rfl
      · rw [syncEdge_of_not_waiting (by rwa [hstate, hslot]), ite_self]
  case unchanged =>
    rw [exec_reportCommand, State.report, if_pos ((live_iff s).2 hrunning), if_neg hnew, if_pos (by rwa [← pinAt_eq])]
  case chain =>
    intro u q pre rest t hmeets hreports hpre hq hne hexec
    have hother : ∀ k ∈ pre, k.sameLine r = false := fun k hk => Bool.eq_false_iff.2 (mt (ofOneLine_iff k r).2 (hpre k hk))
    exact exec_report_of_earlier hrunning hmeets hreports hother ((ofOneLine_iff q r).1 hq) hne hexec

/-! ### Reports before a request (R205) -/

theorem takeFront_of_reports {s : State} {x : Axis} {r : Report} {rest : List Report} (h : (s.axis x).reports = r :: rest) :
    s.takeFront x = (s.setReports x rest).takeReport x r := by
  simp only [State.takeFront, h]

theorem takeOutstanding_of_reports {s : State} {x : Axis} {r : Report} {rest : List Report} (h : (s.axis x).reports = r :: rest) :
    s.takeOutstanding x = (s.takeFront x).takeOutstanding x := by
  rw [State.takeOutstanding, State.takeOutstanding, takeFront_reports, h]
  rfl

theorem takeRequest_takeReports {s : State} (kind : RequestKind) (payload filler : List Byte) (owner : State → Answer)
    (h : s.linkTakes = true) : s.takeRequest kind payload filler owner = s.takeReports.takeRequest kind payload filler owner := by
  have hlasting := (takeReports_acts s).lasting
  have htakes : s.takeReports.linkTakes = true := by rwa [State.linkTakes, State.live, hlasting.power, hlasting.link]
  rw [State.takeRequest, State.takeRequest, if_pos h, if_pos htakes, takeReports_of_taken _ (takeReports_reportsTaken s), hlasting.link]

/-- A request other than SOFT RESET reaches its owner; the link itself refuses a QUEUE MOVES of no number of records that its frame
carries (log 18). -/
theorem exec_of_payload {c : Instr} {k : RequestKind} {payload : List Byte} (h : payloadOfRequest c = some (k, payload)) :
    (∃ owner, ∀ s, exec c s = .next (s.takeRequest k payload (fillerOfRequest c) owner)) ∨ (∃ filler, c = .softReset filler) ∨
      ∃ sel moves filler, c = .queueMoves sel moves filler ∧ ¬(1 ≤ moves.length ∧ moves.length ≤ 4) := by
  cases c with
  | softReset filler => exact .inr (.inl ⟨filler, rfl⟩)
  | queueMoves sel moves filler =>
    by_cases hcount : 1 ≤ moves.length ∧ moves.length ≤ 4
    · obtain ⟨rfl, rfl⟩ := Prod.mk.inj (Option.some.inj h)
      exact .inl ⟨queueMovesOwner sel moves, fun s => if_pos hcount⟩
    · exact .inr (.inr ⟨sel, moves, filler, rfl, hcount⟩)
  | _ => cases h <;> exact .inl ⟨_, fun s => rfl⟩

/-- Settles O9: a command of the oldest report is that report taken, and taking what is outstanding twice is taking it once. -/
theorem outstandingReportsComeFirst : Obligations.OutstandingReportsComeFirst := by
  refine ⟨fun s x r rest hrunning hreports hturn => ?front, fun s ha hb => ?none, fun c s hformed hpayload htakes => ?request⟩
  case front =>
    have hmem : r ∈ (s.axis x).reports := by simp [hreports]
    have hexec := exec_report_first hrunning (.inl ⟨hmem, rfl⟩) (pre := []) hreports nofun
    rw [List.nil_append, ← takeFront_of_reports hreports] at hexec
    refine ⟨s.takeFront x, hexec, ?_, ?_, ?_⟩
    · rw [takeFront_reports, hreports, List.tail_cons]
    · rw [takeFront_axis_other]
    · obtain rfl | ha := hturn
      · rw [State.takeReports, State.takeReports, takeOutstanding_of_reports hreports]
      · cases x with
        | A => rw [State.takeReports, State.takeReports, takeOutstanding_of_reports hreports]
        | B =>
          have ha' : ((s.takeFront .B).axis .A).reports = [] := (congrArg AxisUnit.reports (takeFront_axis_other s .B)).trans ha
          rw [State.takeReports, State.takeReports, takeOutstanding_of_nil s .A ha, takeOutstanding_of_nil _ .A ha',
            takeOutstanding_of_reports hreports]
  case none => exact takeReports_of_taken s ((reportsTaken_iff s).2 ⟨ha, hb⟩)
  case request =>
    have hlasting := (takeReports_acts s).lasting
    have htakes' : s.takeReports.linkTakes = true := by rwa [State.linkTakes, State.live, hlasting.power, hlasting.link]
    refine ⟨?_, (linkReady_iff _).2 ⟨htakes', takeReports_reportsTaken s⟩⟩
    obtain ⟨⟨k, payload⟩, hp⟩ := Option.isSome_iff_exists.1 hpayload
    obtain ⟨owner, howner⟩ | ⟨filler, rfl⟩ | ⟨sel, moves, filler, rfl, hcount⟩ := exec_of_payload hp
    · rw [howner, howner, takeRequest_takeReports k payload _ owner htakes]
    · have hsoft (u : State) (hu : u.linkTakes = true) : exec (.softReset filler) u =
          .next (u.takeReports.chipSelectHigh.recoverWarmReset u.takeReports.chipSelectHigh.checkPasses .soft softResetReply) := if_pos hu
      rw [hsoft s htakes, hsoft _ htakes', takeReports_of_taken _ (takeReports_reportsTaken s)]
    · exact absurd (of_decide_eq_true hformed) hcount

/-! ### Resets (R160 to R168) -/

theorem coldInit_eq (s : State) (kind : RestartKind) : s.coldInit kind = State.seal
    { power := .running
      resetLow := false
      pins := s.pins
      a := axisAfterReset s.a (s.pins.lines .A) 0#32
      b := axisAfterReset s.b (s.pins.lines .B) 0#32
      profiles := Vector.replicate 8 ⟨200, 2000, 20, 0, .immediate, .immediate⟩
      stations := Vector.replicate 32 ⟨none, none⟩
      journal := ⟨[⟨1#16, ⟨.restart, none, false, none, .none, kind.code, 1#32, 0#32, some (0#16, 0#16)⟩⟩], 2#16, 0, 0, []⟩
      check := s.check
      coldFlag := true
      events := 1#8
      settings := ⟨.immediate, 0#16, .normal, .normal, 1#8, 0xFF#8, .systemJournalAxis, .A⟩
      link := linkAfterReset s.link ⟨.restarted, 0#8, []⟩
      pending := s.pending } := rfl

theorem linkAfterReset_discard (l : Link) (reply : Reply) : linkAfterReset l.discard reply = linkAfterReset l reply := by
  unfold linkAfterReset Link.discard
  cases l.chipSelect <;> rfl

/-- A power-on that waits for the reset line ends as one that does not. -/
theorem coldInit_of_held (s : State) (p : Power) (kind : RestartKind) :
    State.coldInit { s with power := p, link := s.link.discard } kind = s.coldInit kind := by
  rw [coldInit_eq, coldInit_eq, linkAfterReset_discard]

/-- Settles O39: cold initialisation register by register, and a power-on by the level of the reset line. -/
theorem coldInitialisationLeavesTheColdValues : Obligations.ColdInitialisationLeavesTheColdValues := by
  refine ⟨rfl, coldInit_eq, fun s => ⟨fun hhigh => if_neg (by simp [hhigh]), fun hlow => ?_⟩⟩
  have hreleased (d : Bool) : exec (.pinResetRelease d) { s with power := .heldPowerOn, link := s.link.discard } =
      .next (s.coldInit .powerOn) := congrArg _ (coldInit_of_held s .heldPowerOn .powerOn)
  exact ⟨_, if_pos hlow, rfl, hreleased false, hreleased true⟩

theorem checkPasses_of_ne {s : State} (h : s.check ≠ s.retained) : s.checkPasses = false := by
  rw [State.checkPasses, beq_eq_false_iff_ne]
  exact h

theorem checkPasses_of_eq {s : State} (h : s.check = s.retained) : s.checkPasses = true := by
  rw [State.checkPasses, h]
  exact beq_self_eq_true _

/-- A pin reset ends by its retained check (R164, R167). -/
theorem exec_pinResetRelease_of_heldPin {s : State} (disturbed : Bool) (h : s.power = .heldPin) :
    exec (.pinResetRelease disturbed) s = .next (s.recoverWarmReset (s.checkPasses && !disturbed) .pin Reply.restarted) := by
  simp only [exec, execPinResetRelease, h]

/-- SOFT RESET with every report taken (R165). -/
theorem exec_softReset_of_ready {s : State} (filler : List Byte) (h : s.linkReady = true) :
    exec (.softReset filler) s = .next (s.chipSelectHigh.recoverWarmReset s.chipSelectHigh.checkPasses .soft softResetReply) := by
  obtain ⟨htakes, htaken⟩ := (linkReady_iff s).1 h
  refine (if_pos htakes).trans ?_
  rw [takeReports_of_taken s htaken]

/-- Settles O41: what each reset's beginning keeps, and the recovery that its check decides. -/
theorem resetsVerifyTheRetainedSet : Obligations.ResetsVerifyTheRetainedSet := by
  refine fun s filler => ⟨?begins, fun hheld => ⟨fun hpasses => ?_, fun hfails => ?_, ?_⟩, fun hready => ?soft⟩
  case begins =>
    rintro held rfl
    exact ⟨fun hrunning => if_pos ((live_iff s).2 hrunning), rfl⟩
  · rw [exec_pinResetRelease_of_heldPin false hheld, checkPasses_of_eq hpasses]
    rfl
  · rw [exec_pinResetRelease_of_heldPin false hheld, checkPasses_of_ne hfails]
    rfl
  · rw [exec_pinResetRelease_of_heldPin true hheld, Bool.not_true, Bool.and_false]
    rfl
  case soft =>
    rintro u rfl
    have hexec := exec_softReset_of_ready filler hready
    refine ⟨fun hpasses => hexec.trans ?_, fun hfails => hexec.trans ?_⟩
    · rw [checkPasses_of_eq (s := s.chipSelectHigh) hpasses]
      rfl
    · rw [checkPasses_of_ne (s := s.chipSelectHigh) hfails]
      rfl

end Sys2Proof.Machine
end

section
/-! SUPPORT. The serial link: which transactions it takes, what it answers, and what a held part does with them (chapter 10). -/

namespace Sys2Proof.Machine

/-- Settles O1: the step by the queue of commands. -/
theorem stepTakesTheFrontCommand : Obligations.StepTakesTheFrontCommand := by
  refine fun s => ⟨fun c rest hpending => ?_, fun hpending => ?_⟩
  · simp only [step, hpending]
  · simp only [step, hpending]

/-! ### Transactions that the link ignores (R163, R164, R184) -/

theorem linkTakes_eq_false {s : State} (h : s.power ≠ .running ∨ s.link.chipSelect = .ignored) : s.linkTakes = false := by
  rw [Bool.eq_false_iff, ne_eq, linkTakes_iff, not_and_or, not_not]
  exact h

theorem payload_of_isTransaction {c : Instr} (h : c.isTransaction = true) :
    (∃ bytes, c = .frameRejected bytes) ∨ ∃ k payload, payloadOfRequest c = some (k, payload) := by
  unfold Instr.isTransaction at h
  split at h
  · exact .inl ⟨_, rfl⟩
  · obtain ⟨⟨k, payload⟩, hp⟩ := Option.isSome_iff_exists.1 h
    exact .inr ⟨k, payload, hp⟩

/-- A transaction that the link does not take changes chip-select alone. -/
theorem exec_of_ignored {c : Instr} {s : State} (hc : c.isTransaction = true) (h : s.linkTakes = false) :
    exec c s = .next s.chipSelectHigh := by
  have hnot : ¬s.linkTakes = true := by simp [h]
  obtain ⟨bytes, rfl⟩ | ⟨k, payload, hp⟩ := payload_of_isTransaction hc
  · exact if_neg hnot
  · obtain ⟨owner, howner⟩ | ⟨filler, rfl⟩ | ⟨sel, moves, filler, rfl, hcount⟩ := exec_of_payload hp
    · rw [howner, takeRequest_ignored s _ _ _ _ h]
    · exact if_neg hnot
    · exact (if_neg hcount).trans (if_neg hnot)

/-- Settles O8: a part that is held, or in a transaction that it ignores, takes none. -/
theorem ignoredTransactionsDoNothing : Obligations.IgnoredTransactionsDoNothing :=
  fun _ _ hc h => exec_of_ignored hc (linkTakes_eq_false h)

/-! ### A held part (R163, log 14) -/

/-- The part but for its input pins, the reset line's level and chip-select. -/
def State.HeldAlike (s t : State) : Prop :=
  t = { s with pins := t.pins, resetLow := t.resetLow, link := { s.link with chipSelect := t.link.chipSelect } }

theorem report_heldAlike {s : State} (x : Axis) (r : Report) (h : ¬s.live = true) : s.HeldAlike (s.report x r) := by
  rw [State.report, if_neg h]
  rfl

/-- What a held part takes, but for what ends its hold. -/
theorem exec_heldAlike {c : Instr} {s t : State} (hpower : s.power ≠ .running) (hon : c ≠ .powerOn) (hsupply : c ≠ .supplyOutOfRange)
    (hrelease : ∀ d, c ≠ .pinResetRelease d) (hexec : exec c s = .next t) : s.HeldAlike t := by
  have hdead : ¬s.live = true := mt (live_iff s).1 hpower
  have done {u : State} (hu : s.HeldAlike u) (heq : exec c s = .next u) : s.HeldAlike t :=
    Host.Outcome.next.inj (heq.symm.trans hexec) ▸ hu
  by_cases htransaction : c.isTransaction = true
  · exact done (u := s.chipSelectHigh) rfl (exec_of_ignored htransaction (linkTakes_eq_false (.inl hpower)))
  cases c with
  | powerOn => exact absurd rfl hon
  | supplyOutOfRange => exact absurd rfl hsupply
  | pinResetRelease d => exact absurd rfl (hrelease d)
  | syncFallingEdge x => exact done (report_heldAlike x _ hdead) rfl
  | syncHigh x => exact done (report_heldAlike x _ hdead) rfl
  | emergencyAssert x => exact done (report_heldAlike x _ hdead) rfl
  | emergencyRelease x => exact done (report_heldAlike x _ hdead) rfl
  | limitAssert x side => exact done (u := s.setLimitPin x side true) rfl (if_neg hdead)
  | limitRelease x side => exact done (u := s.setLimitPin x side false) rfl (if_neg hdead)
  | homeAssert x => exact done (u := s.setHomePin x true) rfl (if_neg hdead)
  | homeRelease x => exact done (u := s.setHomePin x false) rfl (if_neg hdead)
  | pinReset => exact done (u := { s with resetLow := true }) rfl (if_neg hdead)
  | pulse x => exact done (u := s) rfl (if_neg hdead)
  | dwellTimeout x => exact done (u := s) rfl (if_neg hdead)
  | armTimeout x => exact done (u := s) rfl (if_neg hdead)
  | admissionAttempt x => exact done (u := s) rfl (if_neg hdead)
  | chipSelectFall => exact done (u := s.withLink { s.link with chipSelect := .ignored }) rfl (if_neg hdead)
  | _ => exact absurd rfl htransaction

/-- Settles O10: what a held part takes leaves it held, and each output asks for a running part. -/
theorem heldPartTakesNothing : Obligations.HeldPartTakesNothing := by
  intro c s t hpower hon hsupply hrelease hexec
  have halike := exec_heldAlike hpower hon hsupply hrelease hexec
  have hdead : t.live = false := by
    rw [Bool.eq_false_iff, ne_eq, live_iff, congrArg State.power halike]
    exact hpower
  refine ⟨halike, ?_, ?_, ?_, ?_⟩
  · rw [State.irqLow, ← State.live, hdead, Bool.false_and]
  · rw [State.dataOutDriven, hdead, Bool.false_and]
  · rw [State.directionHigh, hdead, Bool.false_and]
  · rw [State.directionHigh, hdead, Bool.false_and]

/-! ### GET STATUS (R189, 12.5) -/

theorem getElem_bitOf {n i : Nat} (flag : Bool) (hi : i < 8) : (bitOf n flag)[i] = (flag && decide (i = n)) := by
  cases flag with
  | false => simp [bitOf]
  | true => rw [bitOf, if_pos rfl, ← BitVec.twoPow_eq, BitVec.getElem_twoPow, Bool.true_and]

/-- Where an axis's 16 bytes begin in a GET STATUS reply. -/
def statusBase : Axis → Nat
  | .A => 0
  | .B => 16

theorem length_axisStatus (s : State) (x : Axis) : (s.axisStatus x).length = 16 := rfl

/-- The items of the journal and of the lines, after those of the axes. -/
def State.commonStatus (s : State) : List Byte :=
  [byteOf s.journal.records.length, byteOf s.journal.reserved] ++ bytes2 s.journal.oldest ++ bytes2 s.journal.newest ++
    bytes2 (BitVec.ofNat 16 s.journal.lost) ++ [bitOf 0 s.coldFlag, s.lineByte]

theorem statusBytes_eq (s : State) : s.statusBytes = (s.axisStatus .A ++ s.axisStatus .B) ++ s.commonStatus := by
  simp only [State.statusBytes, State.commonStatus, List.append_assoc]

theorem statusBytes_split (s : State) (x : Axis) : ∃ before after, s.statusBytes = before ++ (s.axisStatus x ++ after) ∧
    before.length = statusBase x := by
  cases x with
  | A => exact ⟨[], s.axisStatus .B ++ s.commonStatus, by rw [statusBytes_eq, List.append_assoc, List.nil_append], rfl⟩
  | B => exact ⟨s.axisStatus .A, s.commonStatus, by rw [statusBytes_eq, List.append_assoc], length_axisStatus s .A⟩

theorem statusBytes_byte (s : State) (x : Axis) {i : Nat} (h : i < 16) :
    s.statusBytes[statusBase x + i]? = (s.axisStatus x)[i]? := by
  obtain ⟨before, after, heq, hbase⟩ := statusBytes_split s x
  rw [heq, ← hbase, List.getElem?_append_right (Nat.le_add_right ..), Nat.add_sub_cancel_left, List.getElem?_append_left h]

theorem statusBytes_field (s : State) (x : Axis) {i n : Nat} (h : i + n ≤ 16) :
    (s.statusBytes.drop (statusBase x + i)).take n = ((s.axisStatus x).drop i).take n := by
  obtain ⟨before, after, heq, hbase⟩ := statusBytes_split s x
  have hlength := length_axisStatus s x
  rw [heq, ← hbase, List.drop_length_add_append, List.drop_append_of_le_length (by omega),
    List.take_append_of_le_length (by rw [List.length_drop]; omega)]

theorem bitOf_seven (flag : Bool) : bitOf 7 flag = if flag = true then 0x80#8 else 0#8 := by cases flag <;> rfl

theorem bitOf_six (flag : Bool) : bitOf 6 flag = if flag = true then 0x40#8 else 0#8 := by cases flag <;> rfl

theorem tag_isNone (u : AxisUnit) : u.tag.isNone = true ↔ u.slot = none := by simp [AxisUnit.tag]

theorem emitting_of_none {u : AxisUnit} (h : u.slot = none) : u.emitting = false := by simp only [AxisUnit.emitting, h]

/-- Settles O12: the reply's bytes, item by item. -/
theorem getStatusReportsThePart : Obligations.GetStatusReportsThePart := by
  refine fun s filler hready => ⟨?answer, length_statusBytes s, ?tail, rfl, rfl, ?lines, fun x base hbase => ?axis⟩
  case answer =>
    exact congrArg _ (takeRequest_of_owner (owner := getStatusOwner) (.getStatus filler) hready rfl rfl rfl)
  case tail =>
    have hcold : bitOf 0 s.coldFlag = if s.coldFlag = true then 1#8 else 0#8 := rfl
    rw [← hcold, statusBytes_eq]
    exact List.drop_left' rfl
  case lines => simp [State.lineByte, List.range_succ, getElem_bitOf]
  case axis =>
    obtain rfl : base = statusBase x := by cases x <;> exact hbase
    have hmotion : (s.statusBytes.drop (statusBase x + 1)).take 7 =
        (s.axis x).phase.code :: bytes3 (s.axis x).reportedLevel ++ bytes3 (s.axis x).reportedRate :=
      statusBytes_field s x (by decide)
    have htag : (s.statusBytes.drop (statusBase x + 12)).take 2 = bytes2 ((s.axis x).tag.getD 0#16) :=
      statusBytes_field s x (by decide)
    have hflags : s.statusBytes[statusBase x + 14]? =
        some (bitOf 7 (s.axis x).tag.isNone ||| bitOf 6 (s.journal.waitList.contains x)) := statusBytes_byte s x (by decide)
    rw [hmotion, htag, hflags]
    refine ⟨statusBytes_byte s x (i := 0) (by decide), fun hnone => ?_, fun sl hslot hemitting => ?_, fun sl hslot hquiet => ?_,
      statusBytes_field s x (i := 8) (n := 4) (by decide), fun sl hslot => ?_, fun hnone => ?_, ?_, statusBytes_byte s x (i := 15) (by decide)⟩
    · simp only [AxisUnit.phase, AxisUnit.reportedLevel, AxisUnit.reportedRate, hnone]
      rfl
    · simp only [AxisUnit.phase, AxisUnit.reportedLevel, AxisUnit.reportedRate, hslot, hemitting, if_true]
      rfl
    · simp only [AxisUnit.phase, AxisUnit.reportedLevel, AxisUnit.reportedRate, hslot, hquiet, Bool.false_eq_true, if_false]
      rfl
    · rw [AxisUnit.tag, hslot]
      rfl
    · rw [AxisUnit.tag, hnone]
      rfl
    · rw [bitOf_seven, bitOf_six]
      simp only [tag_isNone, List.contains_iff_mem]

/-! ### The four checks (R180) -/

theorem ofCode_code (k : RequestKind) : RequestKind.ofCode k.code = some k := by cases k <;> rfl

theorem ofCode_eq_none {b : Byte} (h : ∀ k : RequestKind, k.code ≠ b) : RequestKind.ofCode b = none :=
  List.find?_eq_none.2 fun k _ => by simpa using h k

section
variable {kind len : Byte} {rest : List Byte}

theorem linkCheck_of_short (h : 64 < len.toNat ∨ rest.length < len.toNat + 1) : linkCheck (kind :: len :: rest) = some .frameError :=
  if_pos h

theorem linkCheck_of_crc_ne (hlen : len.toNat ≤ 64) (hlong : len.toNat + 1 ≤ rest.length)
    (hcrc : rest[len.toNat]? ≠ some (crc8 (kind :: len :: rest.take len.toNat))) : linkCheck (kind :: len :: rest) = some .crcError := by
  have hwhole : ¬(64 < len.toNat ∨ rest.length < len.toNat + 1) := by omega
  exact (if_neg hwhole).trans (if_pos hcrc)

theorem linkCheck_of_unknown (hlen : len.toNat ≤ 64) (hlong : len.toNat + 1 ≤ rest.length)
    (hcrc : rest[len.toNat]? = some (crc8 (kind :: len :: rest.take len.toNat))) (hkind : ∀ k : RequestKind, k.code ≠ kind) :
    linkCheck (kind :: len :: rest) = some .unknownKind := by
  have hwhole : ¬(64 < len.toNat ∨ rest.length < len.toNat + 1) := by omega
  refine (if_neg hwhole).trans ((if_neg (not_not.2 hcrc)).trans ?_)
  rw [ofCode_eq_none hkind]

theorem linkCheck_of_kind (k : RequestKind) (hlen : len.toNat ≤ 64) (hlong : len.toNat + 1 ≤ rest.length)
    (hcrc : rest[len.toNat]? = some (crc8 (k.code :: len :: rest.take len.toNat))) :
    linkCheck (k.code :: len :: rest) = if len.toNat ∈ k.lengths then none else some .lengthError := by
  have hwhole : ¬(64 < len.toNat ∨ rest.length < len.toNat + 1) := by omega
  refine (if_neg hwhole).trans ((if_neg (not_not.2 hcrc)).trans ?_)
  rw [ofCode_code]

end

theorem linkCheck_of_two (bytes : List Byte) (h : bytes.length < 2) : linkCheck bytes = some .frameError := by
  match bytes with
  | [] => rfl
  | [_] => rfl
  | _ :: _ :: _ => simp at h

/-- A rejected frame that fails a check is answered by the link. -/
theorem exec_frameRejected_of_check {s : State} {bytes : List Byte} {e : LinkError} (htakes : s.linkTakes = true) (hne : bytes ≠ [])
    (hcheck : linkCheck (bytes.take 67) = some e) : exec (.frameRejected bytes) s = .next (s.rejectFrame e bytes) := by
  refine (if_pos htakes).trans ((if_neg hne).trans ?_)
  rw [Config.frameBytes, hcheck]

/-- Settles O6: the checks one after another, and the link's answer to what fails one. -/
theorem failedFramesAreAnsweredByTheLink : Obligations.FailedFramesAreAnsweredByTheLink := by
  refine ⟨linkCheck_of_two, fun kind len rest => ⟨fun hshort => ?short, fun hlen hlong => ?whole⟩, fun s htakes => ⟨?fails, ?empty⟩⟩
  case short =>
    refine linkCheck_of_short (hshort.imp_right fun h => ?_)
    rw [List.length_cons, List.length_cons] at h
    omega
  case whole =>
    rw [List.length_cons, List.length_cons] at hlong
    have hrest : len.toNat + 1 ≤ rest.length := by omega
    refine ⟨linkCheck_of_crc_ne hlen hrest, fun hcrc => ⟨linkCheck_of_unknown hlen hrest hcrc, ?_⟩⟩
    rintro k rfl
    exact linkCheck_of_kind k hlen hrest hcrc
  case fails =>
    intro kind rest e hcheck
    exact exec_frameRejected_of_check htakes (List.cons_ne_nil _ _) hcheck
  case empty => exact (if_pos htakes).trans (if_pos rfl)

/-! ### Transactions (R175, R176, R178, R183) -/

theorem exec_chipSelectFall (s : State) : exec .chipSelectFall s = .next
    { s with
      link := if s.power = .running then ⟨.low, ⟨[], 0⟩, s.link.slot, some s.link.slot⟩ else { s.link with chipSelect := .ignored } } := by
  by_cases hrunning : s.power = .running
  · rw [if_pos hrunning]
    exact if_pos ((live_iff s).2 hrunning)
  · rw [if_neg hrunning]
    exact if_neg (mt (live_iff s).1 hrunning)

/-- The reply that a fall has fixed stays through whatever leaves the part running, the recoveries apart. -/
theorem Effect.shifted {c : Instr} {s t : State} (heffect : Effect c s t) (hlow : s.link.chipSelect = .low) (hrunning : t.power = .running)
    (hfall : c ≠ .chipSelectFall) (hsoft : ∀ filler, c ≠ .softReset filler) (hon : c ≠ .powerOn)
    (hrelease : ∀ d, c ≠ .pinResetRelease d) : t.link.shifted = s.link.shifted := by
  cases heffect with
  | changes hchanges => rw [hchanges.kept.link]
  | acts _ hacts => rw [hacts.lasting.link]
  | request bytes r _ _ _ => exact fixedReply_of_low hlow
  | linked l events _ hshifted => exact hshifted hfall hlow
  | soft filler hc => exact absurd hc (hsoft filler)
  | release disturbed hc => exact absurd hc (hrelease disturbed)
  | cold hc =>
    obtain hc | ⟨d, hc, -⟩ := hc
    · exact absurd hc hon
    · exact absurd hc (hrelease d)
  | held p low a b hp => exact absurd hrunning hp
  | level => rfl

/-- A transaction that the link takes ends with its bytes in the receiver and an answer in the reply slot, SOFT RESET apart. -/
theorem exec_of_transaction {c : Instr} {s t : State} {bytes : List Byte} (htakes : s.linkTakes = true)
    (hbytes : (frameOfRequest c).map (· ++ fillerOfRequest c) = some bytes ∨ c = .frameRejected bytes)
    (hsoft : ∀ filler, c ≠ .softReset filler) (hexec : exec c s = .next t) : ∃ r, t.link = s.link.replied bytes r := by
  have done {u : State} (heq : exec c s = .next u) (hu : ∃ r, u.link = s.link.replied bytes r) : ∃ r, t.link = s.link.replied bytes r :=
    Host.Outcome.next.inj (heq.symm.trans hexec) ▸ hu
  obtain hframe | rfl := hbytes
  · obtain ⟨_, hcarried, rfl⟩ := Option.map_eq_some_iff.1 hframe
    obtain ⟨⟨k, payload⟩, hp, rfl⟩ := Option.map_eq_some_iff.1 hcarried
    obtain ⟨owner, howner⟩ | ⟨filler, rfl⟩ | ⟨sel, moves, filler, rfl, hcount⟩ := exec_of_payload hp
    · refine done ((howner s).trans (congrArg _ (if_pos htakes))) ⟨_, rfl⟩
    · exact absurd rfl (hsoft filler)
    · obtain ⟨rfl, rfl⟩ := Prod.mk.inj (Option.some.inj hp)
      exact done ((if_neg hcount).trans (if_pos htakes)) ⟨_, rfl⟩
  · by_cases hempty : bytes = []
    · subst hempty
      exact done ((if_pos htakes).trans (if_pos rfl)) ⟨_, rfl⟩
    · cases hcheck : linkCheck (bytes.take 67) with
      | some e => exact done (exec_frameRejected_of_check htakes hempty hcheck) ⟨_, rfl⟩
      | none =>
        have hrefused : exec (.frameRejected bytes) s = .refused .frameNotRejected := by
          refine (if_pos htakes).trans ((if_neg hempty).trans ?_)
          rw [Config.frameBytes, hcheck]
        rw [hrefused] at hexec
        cases hexec

theorem length_shiftOut (r : Reply) (n : Nat) : (r.shiftOut n).length = n := by
  rw [Reply.shiftOut, List.length_append, List.length_take, List.length_replicate]
  omega

theorem getElem?_shiftOut (r : Reply) {n k : Nat} (h : k < n) : (r.shiftOut n)[k]? = some (r.bytes[k]?.getD 0#8) := by
  rw [Reply.shiftOut]
  by_cases hk : k < r.bytes.length
  · rw [List.getElem?_append_left (by rw [List.length_take]; omega), List.getElem?_take_of_lt h, List.getElem?_eq_getElem hk,
      Option.getD_some]
  · rw [List.getElem?_append_right (by rw [List.length_take]; omega), List.getElem?_eq_none (Nat.not_lt.1 hk), Option.getD_none,
      List.getElem?_replicate, if_pos (by rw [List.length_take]; omega)]

/-- Settles O7: the fall, the effects that leave a fixed reply, the receiver after a transaction, and the bytes read. -/
theorem chipSelectFallFixesTheReply : Obligations.ChipSelectFallFixesTheReply := by
  refine ⟨exec_chipSelectFall, fun c s t hlow hexec hrunning hfall hsoft hon hrelease => ?_,
    fun c s t r bytes hrunning hlow hshifted hbytes hsoft hexec => ?_, fun r n k => ⟨length_shiftOut r n, getElem?_shiftOut r⟩,
    fun s => ?_⟩
  · exact (exec_effect hexec).shifted hlow hrunning hfall hsoft hon hrelease
  · have htakes : s.linkTakes = true := (linkTakes_iff s).2 ⟨hrunning, by simp [hlow]⟩
    obtain ⟨reply, hlink⟩ := exec_of_transaction htakes hbytes hsoft hexec
    rw [hlink]
    refine ⟨rfl, ?_⟩
    rw [Link.bytesOut, replied_shifted, fixedReply_of_low hlow, hshifted]
    rfl
  · rw [State.dataOutDriven, Bool.and_eq_true, live_iff, beq_iff_eq]

end Sys2Proof.Machine
end

section
/-! SUPPORT. A request's frame: it is read back, and one that is cut short or has a byte changed is rejected (10.2, 10.3, 12.5). -/

namespace Sys2Proof.Machine

/-! ### Fields and records (R203, 12.3) -/

theorem halfOf_extract (h : Half) : halfOf (h.extractLsb' 8 8) (h.extractLsb' 0 8) = h := BitVec.extractLsb'_append_extractLsb' (w := 8)

theorem wordOf_extract (w : Word) :
    wordOf (w.extractLsb' 24 8) (w.extractLsb' 16 8) (w.extractLsb' 8 8) (w.extractLsb' 0 8) = w := by
  have hupper : w.extractLsb' 24 8 ++ w.extractLsb' 16 8 = w.extractLsb' 16 16 :=
    BitVec.extractLsb'_append_extractLsb'_eq_extractLsb' rfl
  have hmiddle : w.extractLsb' 16 16 ++ w.extractLsb' 8 8 = w.extractLsb' 8 24 :=
    BitVec.extractLsb'_append_extractLsb'_eq_extractLsb' rfl
  rw [wordOf, hupper, hmiddle]
  exact BitVec.extractLsb'_append_extractLsb' (w := 24)

/-- A run of bytes that begins with a move record's is that record and the records of the others. -/
theorem movesOfBytes_moveBytes (m : RawMove) (bytes : List Byte) :
    movesOfBytes (moveBytes m ++ bytes) = (movesOfBytes bytes).map (m :: ·) := by
  have hstart : (m.start ++ m.direction ++ m.capture).extractLsb' 4 4 = m.start :=
    (BitVec.extractLsb'_append_eq_of_le (by decide)).trans BitVec.extractLsb'_append_eq_left
  have hdirection : (m.start ++ m.direction ++ m.capture).extractLsb' 2 2 = m.direction :=
    (BitVec.extractLsb'_append_eq_of_le (by decide)).trans BitVec.extractLsb'_append_eq_right
  have hrecord : moveOfBytes (m.kind ++ m.profile) (m.start ++ m.direction ++ m.capture) m.pair (m.tag.extractLsb' 8 8)
      (m.tag.extractLsb' 0 8) (m.value.extractLsb' 24 8) (m.value.extractLsb' 16 8) (m.value.extractLsb' 8 8) (m.value.extractLsb' 0 8)
      (m.aux.extractLsb' 24 8) (m.aux.extractLsb' 16 8) (m.aux.extractLsb' 8 8) (m.aux.extractLsb' 0 8) = m := by
    rw [moveOfBytes, hstart, hdirection, halfOf_extract, wordOf_extract, wordOf_extract, BitVec.extractLsb'_append_eq_left,
      BitVec.extractLsb'_append_eq_right, BitVec.extractLsb'_append_eq_right]
  rw [← congrArg (fun r => (movesOfBytes bytes).map (r :: ·)) hrecord]
  rfl

theorem movesOfBytes_flatMap (moves : List RawMove) : movesOfBytes (moves.flatMap moveBytes) = some moves := by
  induction moves with
  | nil => rfl
  | cons m rest ih => rw [List.flatMap_cons, movesOfBytes_moveBytes, ih, Option.map_some]

/-! ### Payloads (12.5, 12.6) -/

/-- A request's payload and filler make that request. -/
theorem requestOfPayload_payloadOfRequest {i : Instr} {k : RequestKind} {payload : List Byte}
    (h : payloadOfRequest i = some (k, payload)) : requestOfPayload (fillerOfRequest i) k payload = some i := by
  have half (h : Half) {f : Half → Instr} : some (f (halfOf (h.extractLsb' 8 8) (h.extractLsb' 0 8))) = some (f h) := by
    rw [halfOf_extract]
  have word (w : Word) {f : Word → Instr} :
      some (f (wordOf (w.extractLsb' 24 8) (w.extractLsb' 16 8) (w.extractLsb' 8 8) (w.extractLsb' 0 8))) = some (f w) := by
    rw [wordOf_extract]
  cases i with
  | setSettings r filler => cases h; exact half r.armLimit (f := fun n => .setSettings { r with armLimit := n } filler)
  | queueMoves sel moves filler =>
    cases h
    exact congrArg (Option.map (fun moves => Instr.queueMoves sel moves filler)) (movesOfBytes_flatMap moves)
  | retune sel rate filler => cases h; exact word rate (f := fun w => .retune sel w filler)
  | setPosition sel value filler => cases h; exact word value (f := fun w => .setPosition sel w filler)
  | writeProfile index r filler =>
    cases h
    refine (word r.base (f := fun w => .writeProfile index ⟨w, _, _, _, r.limitStyle, r.homeStyle⟩ filler)).trans ?_
    refine (word r.cruise (f := fun w => .writeProfile index ⟨r.base, w, _, _, r.limitStyle, r.homeStyle⟩ filler)).trans ?_
    refine (half r.ramp (f := fun n => .writeProfile index ⟨r.base, r.cruise, n, _, r.limitStyle, r.homeStyle⟩ filler)).trans ?_
    exact half r.settle (f := fun n => .writeProfile index { r with settle := n } filler)
  | stationStore n pa va pb vb filler =>
    cases h
    refine (word va (f := fun w => .stationStore n pa w pb _ filler)).trans ?_
    exact word vb (f := fun w => .stationStore n pa va pb w filler)
  | markAdd sel id p sense filler => cases h; exact word p (f := fun w => .markAdd sel id w sense filler)
  | readJournal start n filler => cases h; exact half start (f := fun m => .readJournal m n filler)
  | ackJournal a filler => cases h; exact half a (f := fun m => .ackJournal m filler)
  | _ => cases h <;> rfl

/-- A well-formed request's payload has a length of its kind's row (R192). -/
theorem length_payload {i : Instr} {k : RequestKind} {payload : List Byte} (hformed : i.wellFormed = true)
    (h : payloadOfRequest i = some (k, payload)) : payload.length ∈ k.lengths := by
  cases i with
  | queueMoves sel moves filler => exact Laws.FrameShape.queueMoves sel moves filler k payload hformed h
  | _ => cases h <;> exact List.mem_singleton.2 rfl

theorem lengths_le (k : RequestKind) : ∀ n ∈ k.lengths, n ≤ 64 := by cases k <;> decide

/-! ### Frames (R176) -/

theorem requestFrame_eq (kind : Byte) (payload : List Byte) : requestFrame kind payload =
    kind :: BitVec.ofNat 8 payload.length :: (payload ++ [crc8 (kind :: BitVec.ofNat 8 payload.length :: payload)]) := rfl

/-- A frame and the bytes after it, with the payload apart. -/
theorem requestFrame_append (kind : Byte) (payload more : List Byte) : requestFrame kind payload ++ more =
    kind :: BitVec.ofNat 8 payload.length :: (payload ++ crc8 (kind :: BitVec.ofNat 8 payload.length :: payload) :: more) := by
  rw [requestFrame_eq, List.cons_append, List.cons_append, List.append_assoc, List.singleton_append]

theorem length_requestFrame (kind : Byte) (payload : List Byte) : (requestFrame kind payload).length = payload.length + 3 := by
  simp [requestFrame_eq]

theorem toNat_length {n : Nat} (h : n ≤ 64) : (BitVec.ofNat 8 n).toNat = n := by
  rw [BitVec.toNat_ofNat]
  omega

/-- A frame with bytes after it fails no check. -/
theorem linkCheck_requestFrame (k : RequestKind) {payload : List Byte} (more : List Byte) (h : payload.length ∈ k.lengths) :
    linkCheck (requestFrame k.code payload ++ more) = none := by
  have hlen := toNat_length (lengths_le k _ h)
  rw [requestFrame_append, linkCheck_of_kind, if_pos (by rwa [hlen])]
  · exact hlen.le.trans (lengths_le k _ h)
  · simp [hlen]
  · rw [hlen, List.getElem?_append_right le_rfl, Nat.sub_self, List.take_left' rfl]
    rfl

/-- What a transaction that fails no check makes (R176). -/
theorem commandOfTransaction_of_check {kind len : Byte} {rest : List Byte} (h : linkCheck ((kind :: len :: rest).take 67) = none) :
    commandOfTransaction (kind :: len :: rest) =
      (RequestKind.ofCode kind).bind (fun k => requestOfPayload (rest.drop (len.toNat + 1)) k (rest.take len.toNat)) := by
  refine (if_neg (List.cons_ne_nil _ _)).trans ?_
  rw [Config.frameBytes, h]

/-- Settles O3: the frame fails no check, and its payload and what follows its CRC make the request. -/
theorem requestFramesDecode : Obligations.RequestFramesDecode := by
  intro i frame hformed hframe
  obtain ⟨⟨k, payload⟩, hp, rfl⟩ := Option.map_eq_some_iff.1 hframe
  have hlength := length_payload hformed hp
  have hmax := lengths_le k _ hlength
  have htaken : (requestFrame k.code payload ++ fillerOfRequest i).take 67 =
      requestFrame k.code payload ++ (fillerOfRequest i).take (64 - payload.length) := by
    rw [List.take_append, List.take_of_length_le (by rw [length_requestFrame]; omega), length_requestFrame]
    congr 2
    omega
  have hcheck : linkCheck ((requestFrame k.code payload ++ fillerOfRequest i).take 67) = none := by
    rw [htaken, linkCheck_requestFrame k _ hlength]
  rw [requestFrame_append] at hcheck ⊢
  rw [commandOfTransaction_of_check hcheck, ofCode_code, Option.bind_some, toNat_length hmax, List.take_left' rfl,
    List.drop_length_add_append, List.drop_succ_cons, List.drop_zero]
  exact requestOfPayload_payloadOfRequest hp

/-! ### The CRC tells one byte from another (R177) -/

/-- The register before a shift. -/
def crcUnshift (r : Byte) : Byte := if r.getLsbD 0 then ((r ^^^ 7#8) >>> 1) ||| 0x80#8 else r >>> 1

theorem crcUnshift_crcShift : Function.LeftInverse crcUnshift crcShift := by
  unfold Function.LeftInverse
  decide

theorem repeat_injective {α : Type} {f : α → α} (hf : Function.Injective f) (n : Nat) : Function.Injective (Nat.repeat f n) := by
  induction n with
  | zero => exact fun _ _ => id
  | succ n ih => exact hf.comp ih

theorem crcShifts_injective : Function.Injective (Nat.repeat crcShift 8) := repeat_injective crcUnshift_crcShift.injective 8

theorem crcByte_byte_injective (r : Byte) : Function.Injective (crcByte r) :=
  fun _ _ h => (BitVec.xor_right_inj _).1 (crcShifts_injective h)

theorem crcByte_register_injective (b : Byte) : Function.Injective (crcByte · b) :=
  fun _ _ h => (BitVec.xor_left_inj _).1 (crcShifts_injective h)

theorem foldl_crcByte_injective (bytes : List Byte) : Function.Injective (fun r => bytes.foldl crcByte r) := by
  induction bytes with
  | nil => exact fun _ _ => id
  | cons b rest ih => exact ih.comp (crcByte_register_injective b)

theorem foldl_crcByte_set_ne {bytes : List Byte} {k : Nat} {b : Byte} (r : Byte) (hk : k < bytes.length) (hne : bytes[k]? ≠ some b) :
    (bytes.set k b).foldl crcByte r ≠ bytes.foldl crcByte r := by
  induction bytes generalizing k r with
  | nil => simp at hk
  | cons c rest ih =>
    cases k with
    | zero =>
      intro heq
      have hbyte : b = c := crcByte_byte_injective r (foldl_crcByte_injective rest heq)
      exact hne (by rw [hbyte]; rfl)
    | succ k => exact ih (crcByte r c) (Nat.lt_of_succ_lt_succ hk) hne

theorem crc8_set_ne {bytes : List Byte} {k : Nat} {b : Byte} (hk : k < bytes.length) (hne : bytes[k]? ≠ some b) :
    crc8 (bytes.set k b) ≠ crc8 bytes := foldl_crcByte_set_ne 0#8 hk hne

/-! ### Damaged frames (R180) -/

/-- A whole run of bytes whose register does not end at 0 fails the second check. -/
theorem linkCheck_of_residue {kind len : Byte} {rest : List Byte} (hlen : len.toNat ≤ 64) (hlength : rest.length = len.toNat + 1)
    (h : crc8 (kind :: len :: rest) ≠ 0#8) : linkCheck (kind :: len :: rest) = some .crcError := by
  refine linkCheck_of_crc_ne hlen hlength.ge fun hcrc => h ?_
  have hsplit : rest = rest.take len.toNat ++ [crc8 (kind :: len :: rest.take len.toNat)] := by
    have hall := List.take_append_getElem (l := rest) (i := len.toNat) (by omega)
    rw [(List.getElem_eq_iff (by omega)).2 hcrc, ← hlength, List.take_length] at hall
    exact hall.symm
  have hwhole := crc8_append_crc8 (kind :: len :: rest.take len.toNat)
  rwa [List.cons_append, List.cons_append, ← hsplit] at hwhole

theorem commandOfTransaction_of_fails {bytes : List Byte} {e : LinkError} (hne : bytes ≠ []) (hmax : bytes.length ≤ 67)
    (h : linkCheck bytes = some e) : commandOfTransaction bytes = some (.frameRejected bytes) := by
  refine (if_neg hne).trans ?_
  rw [Config.frameBytes, List.take_of_length_le hmax, h]

section
variable {k : RequestKind} {payload : List Byte} (hlength : payload.length ∈ k.lengths)
include hlength

theorem linkCheck_take {n : Nat} (hn : n < (requestFrame k.code payload).length) :
    linkCheck ((requestFrame k.code payload).take n) = some .frameError := by
  have hlen := toNat_length (lengths_le k _ hlength)
  rw [length_requestFrame] at hn
  match n with
  | 0 => rfl
  | 1 => rfl
  | n + 2 =>
    rw [requestFrame_eq, List.take_succ_cons, List.take_succ_cons]
    refine linkCheck_of_short (.inr ?_)
    rw [hlen, List.length_take]
    omega

theorem linkCheck_set {n : Nat} {b : Byte} (hn : n < (requestFrame k.code payload).length) (hne1 : n ≠ 1)
    (hne : (requestFrame k.code payload)[n]? ≠ some b) : linkCheck ((requestFrame k.code payload).set n b) = some .crcError := by
  have hlen := toNat_length (lengths_le k _ hlength)
  have hmax := hlen.le.trans (lengths_le k _ hlength)
  have hresidue : crc8 ((requestFrame k.code payload).set n b) ≠ 0#8 :=
    (crc8_append_crc8 (k.code :: BitVec.ofNat 8 payload.length :: payload)) ▸ crc8_set_ne hn hne
  match n with
  | 0 => exact linkCheck_of_residue hmax (by simp [hlen]) hresidue
  | 1 => exact absurd rfl hne1
  | n + 2 => exact linkCheck_of_residue hmax (by simp [hlen]) hresidue

end

/-- Settles O4: a frame cut short is shorter than its length byte says, and a changed byte changes the register's end. -/
theorem damagedFramesAreRejected : Obligations.DamagedFramesAreRejected := by
  intro i frame hformed hframe
  obtain ⟨⟨k, payload⟩, hp, rfl⟩ := Option.map_eq_some_iff.1 hframe
  have hlength := length_payload hformed hp
  have hmax : (requestFrame k.code payload).length ≤ 67 := by
    have hpayload := lengths_le k _ hlength
    rw [length_requestFrame]
    omega
  refine ⟨fun n hpos hn => ?cut, fun n b hn hne1 hne => ?changed⟩
  case cut =>
    have hfails := linkCheck_take hlength hn
    have hcut : ((requestFrame k.code payload).take n).length = n := List.length_take_of_le hn.le
    refine ⟨hfails, commandOfTransaction_of_fails (List.ne_nil_of_length_pos (by rwa [hcut])) ?_ hfails⟩
    rw [hcut]
    exact hn.le.trans hmax
  case changed =>
    have hfails := linkCheck_set hlength hn hne1 hne
    have hkept : ((requestFrame k.code payload).set n b).length = (requestFrame k.code payload).length := List.length_set
    refine ⟨hfails, commandOfTransaction_of_fails (List.ne_nil_of_length_pos ?_) (hkept.trans_le hmax) hfails⟩
    rw [hkept]
    exact Nat.zero_lt_of_lt hn

end Sys2Proof.Machine
end
